-- ==== Sys2Proof/Word.lean ====
section
/-! DEFINITION. The word types of the UM640's frames and the fixed maxima of its saturating counts (00_scope.md, Numbers and
units; 12_frame_and_record_formats.md, section 12.1). -/

namespace Sys2Proof

/-- One byte of a frame, a table or the staging buffer. -/
abbrev Byte := BitVec 8

/-- A subscriber identity in its packed decimal encoding of section 12.1: fifteen digits and a last half-byte 0xF. -/
abbrev Sid := BitVec 64

/-- A beacon identity in its packed decimal encoding of section 12.1: six digits, or five and a last half-byte 0xF. -/
abbrev Beacon := BitVec 24

/-- The eight bytes of an operator code, first byte highest (R186). -/
abbrev Code := BitVec 64

/-- A condition set or mask: one position per condition (section 12.1). -/
abbrev CondSet := BitVec 16

/-- Largest amount of money, 2^40 − 1 µc. -/
def maxMoney : Nat := 1099511627775

/-- Largest accumulated byte or block count, 2^48 − 1. -/
def maxBytes : Nat := 281474976710655

/-- Largest value of a 16-bit saturating count. -/
def max16 : Nat := 65535

/-- Largest value of a 32-bit count. -/
def max32 : Nat := 4294967295

/-- Addition that saturates at `top` (00_scope.md, Numbers and units). -/
def satAdd (top a b : Nat) : Nat := min top (a + b)

end Sys2Proof
end

