-- ==== Sys2Proof/Syntax.lean ====
section
/-! DEFINITION. The commands of the UM640: one constructor per row of spec/opcode_table.json, with the row's operands.
A request row carries the request's tag and the fields of its body (section 12.2); a frame row carries the unit address or
link number and the frame's fields (sections 12.3 and 12.4); an expiry row carries the index of the timer's owner. -/

namespace Sys2Proof

/-- What opens an epoch (R138, R140). -/
inductive OpenReason where
  | powerOn | zone | linkClass | tariffLoad | partnerLoad | restart
  deriving DecidableEq, Repr

/-- One usage entry of a USAGE frame: context index, up bytes and down bytes (section 9.4). -/
structure UsageEntry where
  ctx : Nat
  up : Nat
  down : Nat
  deriving DecidableEq, Repr

/-- The UM640's commands and events. -/
inductive Instr where
  | hardwareReset
  | controlFrame (bytes : List Byte)
  | gapTimeout
  | controlFrameSent
  | notice
  | fix (tag : Nat) (lat lon : Int) (quality fixTime : Nat)
  | zoneForce (tag zone : Nat)
  | zoneRelease (tag : Nat)
  | zoneQuery (tag : Nat) (zone : Option Nat)
  | staleTimerExpiry
  | linkEnable (tag link kind : Nat)
  | linkDisable (tag link : Nat)
  | linkSet (tag link ceiling bonus : Nat)
  | linkQuery (tag link : Nat)
  | status (link carrier quality latency capacity : Nat)
  | echo (link sequence : Nat)
  | carried (link : Nat)
  | released (link : Nat)
  | terminalFrameInvalid (payload : List Byte)
  | probeTimerExpiry
  | carryTimeout (link : Nat)
  | drainTimerExpiry (link : Nat)
  | holdOffExpiry (link : Nat)
  | dwellTimerExpiry
  | linkZoneCheck
  | capacityHandover
  | regrantTimerExpiry
  | join (unit serial : Nat)
  | heartbeat (unit phase power demand : Nat)
  | heartbeatTimerExpiry (cell : Nat)
  | deckFrameInvalid (payload : List Byte)
  | cellDisable (tag cell : Nat)
  | cellEnable (tag cell : Nat)
  | cellQuery (tag cell clear : Nat)
  | activity (unit : Nat) (kinds : List Nat)
  | idleTimerExpiry (cell : Nat)
  | deepTimerExpiry (cell : Nat)
  | cellRetuneOrder
  | retuned (unit : Nat) (beacon : Beacon)
  | retuneTimerExpiry (cell : Nat)
  | cellSilenceOrder
  | silenced (unit : Nat)
  | silenceTimerExpiry (cell : Nat)
  | lampSet (tag pattern : Nat)
  | attach (unit : Nat) (sid : Sid)
  | detach (unit : Nat) (sid : Sid) (ctx : Nat)
  | subRelease (tag ctx : Nat)
  | graceDeadline (ctx : Nat)
  | serviceOffRelease
  | subQuery (tag ctx : Nat)
  | subFind (tag : Nat) (sid : Sid)
  | regAns (link correlation result cause : Nat)
  | regTimeoutDeadline (correlation : Nat)
  | reevaluation
  | subReregister (tag ctx : Nat)
  | epochOpen (reason : OpenReason)
  | usageEnd (unit epoch : Nat)
  | cutTimerExpiry (epoch : Nat)
  | usage (unit epoch : Nat) (entries : List UsageEntry)
  | quotaGrant (tag ctx mode amount : Nat)
  | quotaAttentionRead (tag : Nat)
  | ticketRead (tag max : Nat)
  | ticketRelease (tag sequence : Nat)
  | intervalDeadline (ctx : Nat)
  | settingsSet (tag setting value : Nat)
  | settingsGet (tag setting : Nat)
  | timeSet (tag seconds : Nat)
  | condClear (tag : Nat) (conds : CondSet)
  | condMask (tag : Nat) (conds : CondSet)
  | statusRead (tag block : Nat)
  | identify (tag : Nat)
  | unlock (tag : Nat) (code : Code)
  | lock (tag : Nat)
  | lockoutTimerExpiry
  | codeSet (tag : Nat) (code : Code)
  | loadBegin (tag kind total checksum : Nat)
  | loadData (tag offset : Nat) (bytes : List Byte)
  | loadCommit (tag : Nat)
  | storeSave (tag : Nat)
  | storeWriteCompletion (success : Bool)
  | restart (tag : Nat)
  | epcRestart
  | capRestart
  | ducRestart
  | sbtRestart
  | rgeRestart
  | rteRestart
  | tkqRestart
  | lengthDiscard
  deriving DecidableEq, Repr

end Sys2Proof
end

