-- ==== Sys2Proof/Decode.lean ====
section
/-! DEFINITION. The command that a word of the opcode table's bits spells. No row of spec/opcode_table.json gives bits: a command
of this block is a request, a frame or an event, and none is an instruction word (assumption 33). -/

namespace Sys2Proof

/-- The command that the word `w` of `nbits` bits spells: none, since no row of the table has bits. -/
def decodeTableWord (_nbits _w : Nat) : Option Instr := none

end Sys2Proof
end

