-- ==== Sys2Proof/Config.lean ====
section
/-! DEFINITION. The values the manual leaves open: free constants without a body, so that no proof can see one. -/

namespace Sys2Proof

/-- The i-th of the eight printable characters of the version string that IDENTIFY reports, counted from the space
character. R194 gives the string's length and no characters: a free value (assumption 9). -/
opaque Config.versionChar : Nat → Fin 95

/-- The priority that ZONE_QUERY reports for the built-in zone UNSET. R2 fixes UNSET's other values and gives no
priority, and R1 bounds a priority to 0–15: a free value (assumption 8). -/
opaque Config.unsetPriority : Fin 16

end Sys2Proof
end

