-- ==== Sys2Proof/Machine/State.lean ====
section
/-! DEFINITION. The UM640's state as plain data, block by block, and its value right after a hardware reset on a blank
configuration store. -/

namespace Sys2Proof.Machine

/-- A cell index 0–23, its unit address on the deck port (R57). -/
abbrev CellId := Fin 24

/-- A link index 0–5 (R18). -/
abbrev LinkId := Fin 6

/-- A timer: stopped, or the ship time in milliseconds of its deadline (00_scope.md, Time). -/
abbrev Timer := Option Nat

/-- A zone index 0–31, or 255 for the built-in zone UNSET (section 12.1). -/
abbrev ZoneId := Nat

/-! ### Position and zones (01) -/

/-- The kinds of zone (R1). -/
inductive ZoneKind where
  | port | territorial | international
  deriving DecidableEq, Repr

/-- The kinds of link (R18). -/
inductive LinkKind where
  | terrestrial | microwave | satellite
  deriving DecidableEq, Repr

/-- A link class: the kind of the carrying link, or `none` for NONE (R40). -/
abbrev LinkClass := Option LinkKind

/-- A set of link kinds (R1). -/
structure KindSet where
  terrestrial : Bool
  microwave : Bool
  satellite : Bool
  deriving DecidableEq, Repr

/-- One rectangle, all edges inclusive, in 1/100,000 degree (R1). -/
structure Rect where
  south : Int
  north : Int
  west : Int
  east : Int
  deriving DecidableEq, Repr

/-- A zone record (R1); only UNSET's beacon identity is absent (R2). -/
structure ZoneRecord where
  kind : ZoneKind
  jurisdiction : Nat
  priority : Nat
  service : Bool
  kinds : KindSet
  beacon : Option Beacon
  rects : List Rect
  deriving DecidableEq, Repr

/-- A zone table: its default zone index, and its present records in rising index order (R1). -/
structure ZoneTable where
  defaultZone : Nat
  zones : List (Nat × ZoneRecord)
  deriving DecidableEq, Repr

/-- The last fix record (R6). -/
structure FixRecord where
  lat : Int
  lon : Int
  quality : Nat
  fixTime : Nat
  arrival : Nat
  named : ZoneId
  deriving DecidableEq, Repr

/-- The cause of a zone change (R9). -/
inductive ChangeCause where
  | fix | force | table
  deriving DecidableEq, Repr

/-- The last change record (R9). -/
structure ChangeRecord where
  cause : ChangeCause
  previous : ZoneId
  new : ZoneId
  time : Nat
  deriving DecidableEq, Repr

/-- The position state (R10). -/
inductive PosState where
  | none | fresh | stale
  deriving DecidableEq, Repr

/-- The Position and Zone Unit's state (01). -/
structure Pzu where
  table : Option ZoneTable
  current : ZoneId
  forced : Option Nat
  candidate : Option ZoneId
  confirmCount : Nat
  lastFix : Option FixRecord
  lastChange : Option ChangeRecord
  position : PosState
  staleTimer : Timer
  deriving DecidableEq, Repr

/-- A zone change as delivered to another block: the new zone's index and record (R9). -/
structure ZoneEvent where
  zone : ZoneId
  record : ZoneRecord
  deriving DecidableEq, Repr

/-! ### Links (02) -/

/-- The link states (R18, section 2.2). -/
inductive LinkState where
  | off | down | probing | ready | engaging | carrying | draining | fault
  deriving DecidableEq, Repr

/-- What the configuration store keeps of a link (R18). -/
structure LinkConfig where
  enabled : Bool
  kind : LinkKind
  ceiling : Nat
  bonus : Nat
  deriving DecidableEq, Repr

/-- A recorded STATUS (R18, R24). -/
structure StatusRecord where
  carrier : Bool
  quality : Nat
  latency : Nat
  capacity : Nat
  deriving DecidableEq, Repr

/-- A link record (R18). -/
structure Link where
  cfg : LinkConfig
  state : LinkState
  last : Option StatusRecord
  statusAge : Nat
  probeSeq : Nat
  probeOut : Bool
  goodEchoes : Nat
  misses : Nat
  lowQuality : Nat
  carryTimer : Timer
  drainTimer : Timer
  holdOffTimer : Timer
  deriving DecidableEq, Repr

/-- The Link Manager's state (02). -/
structure Lkm where
  links : Vector Link 6
  dwellTimer : Timer
  probeTimer : Timer
  classHanded : LinkClass
  deriving DecidableEq, Repr

/-! ### Capacity (03) -/

/-- The Capacity Arbiter's state but for the grants, which the cell records hold (R44). -/
structure Cap where
  carried : Nat
  pool : Nat
  pointer : Nat
  demandChanged : Bool
  regrantTimer : Timer
  deriving DecidableEq, Repr

/-! ### Cells (04, 05) -/

/-- The cell states (R57). -/
inductive CellState where
  | absent | serving | doze | deep | retuning | silencing | silent | lost | disabled
  deriving DecidableEq, Repr

/-- The heartbeat phases (R57). -/
inductive Phase where
  | a | b
  deriving DecidableEq, Repr

/-- A unit's power (R57). -/
inductive Power where
  | mains | backup
  deriving DecidableEq, Repr

/-- A cell record (R57), with the retune target that R85 adds. -/
structure Cell where
  state : CellState
  serial : Nat
  phase : Phase
  good : Bool
  missed : Nat
  heartbeatTimer : Timer
  power : Power
  demand : Nat
  grant : Nat
  attached : Nat
  beacon : Option Beacon
  idleTimer : Timer
  deepTimer : Timer
  retuneTimer : Timer
  silenceTimer : Timer
  badFrames : Nat
  target : Option Beacon
  deriving DecidableEq, Repr

/-- The service lamp's patterns (R93). -/
inductive Pattern where
  | off | slow | fast | steady
  deriving DecidableEq, Repr

/-- The service lamp: forced or automatic (R94), the pattern it shows and when that pattern began (R93). -/
structure Lamp where
  forced : Option Pattern
  pattern : Pattern
  since : Nat
  deriving DecidableEq, Repr

/-- The Deck Unit Controller's state (04, 05). -/
structure Duc where
  cells : Vector Cell 24
  retuneList : List CellId
  heldJoins : List (CellId × Nat)
  lamp : Lamp
  deriving DecidableEq, Repr

/-! ### Rating (09) and usage tickets (10) -/

/-- A rating key (R153); `none` is the partner "none". -/
structure Key where
  zone : ZoneId
  partner : Option Nat
  tariff : Nat
  generation : Nat
  linkClass : LinkClass
  deriving DecidableEq, Repr

/-- The tariff values of a key (R153). -/
structure TariffValues where
  price : Nat
  block : Nat
  fee : Nat
  multiplier : Nat
  deriving DecidableEq, Repr

/-- An open accumulator (R154). -/
structure Accumulator where
  key : Key
  values : TariffValues
  start : Nat
  firstEpoch : Nat
  lastEpoch : Nat
  up : Nat
  down : Nat
  blocks : Nat
  charge : Nat
  resBytes : Nat
  resThousandths : Nat
  feeApplied : Bool
  late : Bool
  saturated : Bool
  deriving DecidableEq, Repr

/-- A context's quota (R161). -/
structure Quota where
  balance : Nat
  unlimited : Bool
  lowMark : Nat
  lastGrant : Nat
  lowNotified : Bool
  overrun : Nat
  deriving DecidableEq, Repr

/-- Held usage (R171). -/
structure Held where
  up : Nat
  down : Nat
  epoch : Nat
  deriving DecidableEq, Repr

/-- The close reasons (R168). -/
inductive CloseReason where
  | zone | partner | tariff | linkClass | detach | cellLost | serviceOff | host | interval | restart | late
  deriving DecidableEq, Repr

/-- A ticket (R168). -/
structure Ticket where
  seq : Nat
  ctx : Nat
  sid : Sid
  key : Key
  firstEpoch : Nat
  lastEpoch : Nat
  startTime : Nat
  endTime : Nat
  up : Nat
  down : Nat
  blocks : Nat
  charge : Nat
  feeApplied : Bool
  reason : CloseReason
  late : Bool
  saturated : Bool
  timeUnset : Bool
  balance : Nat
  overrun : Option Nat
  deriving DecidableEq, Repr

/-- One tariff (R151). -/
structure Tariff where
  price : Nat
  block : Nat
  fee : Nat
  deriving DecidableEq, Repr

/-- A tariff table: 16 tariffs, and the multipliers of NONE, TERRESTRIAL, MICROWAVE and SATELLITE (R151). -/
structure TariffTable where
  tariffs : Vector Tariff 16
  multipliers : Vector Nat 4
  deriving DecidableEq, Repr

/-- A held tariff generation; `none` is the table of defaults of R151. -/
structure TariffGen where
  number : Nat
  table : Option TariffTable
  deriving DecidableEq, Repr

/-- Why a context is on the quota attention list (R163). -/
inductive AttentionReason where
  | low | empty
  deriving DecidableEq, Repr

/-- The Rating Engine's state but for what the contexts hold (09). -/
structure Rte where
  generations : List TariffGen
  attention : List (Nat × AttentionReason)
  discarded : Nat
  lateEntries : Nat
  deriving DecidableEq, Repr

/-- The restart write-off record (R180). -/
structure WriteOff where
  contexts : Nat
  up : Nat
  down : Nat
  deriving DecidableEq, Repr

/-- The Ticket Queue's state but for the held usage, which the contexts hold (10). -/
structure Tkq where
  tickets : List Ticket
  nextSeq : Nat
  holdList : List Nat
  refusals : Nat
  writeOff : WriteOff
  deriving DecidableEq, Repr

/-! ### Subscribers (06) and registration (07) -/

/-- The states of a context in use (R96). -/
inductive CtxState where
  | attaching | active | leaving
  deriving DecidableEq, Repr

/-- A restriction set (R96). -/
structure Restrictions where
  quota : Bool
  backlog : Bool
  zone : Bool
  deriving DecidableEq, Repr

/-- The purpose of a registration (R96). -/
inductive Purpose where
  | attach | rereg
  deriving DecidableEq, Repr

/-- A context's registration (R96). -/
inductive Registration where
  | none
  | queued (attempt : Nat) (purpose : Purpose)
  | sent (attempt : Nat) (purpose : Purpose)
  deriving DecidableEq, Repr

/-- The leave reasons (R96). -/
inductive LeaveReason where
  | detach | cellLost | host | serviceOff
  deriving DecidableEq, Repr

/-- A leaving record (R96). -/
structure LeavingRecord where
  reason : LeaveReason
  complete : Bool
  deriving DecidableEq, Repr

/-- A context in use (R96); a FREE context is not listed. -/
structure Context where
  state : CtxState
  sid : Sid
  homeGroup : Nat
  cell : CellId
  orphan : Option Nat
  restrictions : Restrictions
  registration : Registration
  partner : Option Nat
  jurisdiction : Option Nat
  feeZone : Option ZoneId
  quota : Quota
  accumulator : Option Accumulator
  held : Option Held
  leaving : Option LeavingRecord
  deriving DecidableEq, Repr

/-- One entry of the home group pattern table (R98); bit 15 − p of the mask says that digit p, from 1, is compared. -/
structure PatternEntry where
  pattern : Sid
  mask : BitVec 16
  group : Nat
  deriving DecidableEq, Repr

/-- The Subscriber Table's state (06): the contexts in use in rising index order, and the live pattern table. -/
structure Sbt where
  contexts : List (Nat × Context)
  patterns : Option (List PatternEntry)
  deriving DecidableEq, Repr

/-- The modes of a partner entry (R119). -/
inductive PartnerMode where
  | forbidden | local | authorize
  deriving DecidableEq, Repr

/-- A partner entry (R119). -/
structure PartnerEntry where
  mode : PartnerMode
  partner : Nat
  tariff : Nat
  deriving DecidableEq, Repr

/-- A held partner generation: its 512 entries, group by group within zone by zone, or `none` where no table has been
committed and every entry is FORBIDDEN (R119, R137). -/
structure PartnerGen where
  number : Nat
  table : Option (List PartnerEntry)
  deriving DecidableEq, Repr

/-- An entry of the outstanding table (R121). -/
structure Outstanding where
  correlation : Nat
  ctx : Nat
  zone : ZoneId
  jurisdiction : Nat
  partner : Nat
  link : LinkId
  deadline : Nat
  abandoned : Bool
  deriving DecidableEq, Repr

/-- The Registration Engine's state (07); the newest held generation is the last. -/
structure Rge where
  generations : List PartnerGen
  queue : List Nat
  outstanding : List Outstanding
  nextCorrelation : Nat
  unmatched : Nat
  deriving DecidableEq, Repr

/-! ### Epochs (08) -/

/-- The cut states (R138). -/
inductive CutState where
  | none | waiting | complete | timedOut
  deriving DecidableEq, Repr

/-- An epoch context (R138); the pending set is in rising cell order. -/
structure Epoch where
  number : Nat
  reason : OpenReason
  zone : ZoneId
  linkClass : LinkClass
  tariffGen : Nat
  partnerGen : Nat
  opened : Nat
  pendingSet : List CellId
  cut : CutState
  cutTimer : Timer
  deriving DecidableEq, Repr

/-- The Epoch Controller's state (08): the ring, oldest first, and the retirement counts. -/
structure Epc where
  ring : List Epoch
  retiredComplete : Nat
  retiredTimeout : Nat
  retiredForced : Nat
  deriving DecidableEq, Repr

/-! ### Settings (R190) -/

/-- The classes of activity event (R78). -/
inductive EventClass where
  | primary | secondary | ignored
  deriving DecidableEq, Repr

/-- An entry of the event class table (R78). -/
structure EventEntry where
  cls : EventClass
  deepWake : Bool
  deriving DecidableEq, Repr

/-- Every setting of R190, in its own unit; `events` is the event class table in the order of section 12.3. -/
structure Settings where
  confirmThreshold : Nat
  staleTime : Nat
  entryThreshold : Nat
  exitThreshold : Nat
  probePeriod : Nat
  drainLimit : Nat
  dwellTime : Nat
  swapMargin : Nat
  reserve : Nat
  heartbeatPeriod : Nat
  cutTimeout : Nat
  idleTime : Nat
  deepTime : Nat
  minAwake : Nat
  doze : Bool
  events : Vector EventEntry 6
  retuneWindow : Nat
  cellLimit : Nat
  graceTime : Nat
  admissionUnlimited : Bool
  regTimeout : Nat
  shipId : Nat
  interval : Nat
  watermark : Nat
  deriving DecidableEq, Repr

/-! ### Control port and configuration store (11) -/

/-- The control port receiver (R181): hunting, or inside a frame with the bytes taken after the start byte and the ship
time of the last byte. -/
inductive Receiver where
  | hunting
  | inside (taken : List Byte) (since : Nat)
  deriving DecidableEq, Repr

/-- An entry of the inbound queue (R182). -/
structure InEntry where
  tag : Nat
  code : Nat
  body : List Byte
  answered : Bool
  deriving DecidableEq, Repr

/-- The kinds of frame in the outbound queue (R182): the reply of a queued request, or one of the shared kinds. -/
inductive OutKind where
  | reply | busy | notice
  deriving DecidableEq, Repr

/-- A frame of the outbound queue (R182). -/
structure OutFrame where
  kind : OutKind
  tag : Nat
  code : Nat
  body : List Byte
  deriving DecidableEq, Repr

/-- The reply statuses (R183). -/
inductive Status where
  | ok | clamped | held | busy | locked | badArg | notFound | state | loadInvalid | loadMismatch
  deriving DecidableEq, Repr

/-- The kinds of bulk table (R188). -/
inductive TableKind where
  | zone | partner | tariff | homeGroup
  deriving DecidableEq, Repr

/-- An open bulk load (R188): the staged bytes by offset, rising; an offset not listed has not been written. -/
structure Load where
  kind : TableKind
  total : Nat
  checksum : Nat
  cells : List Host.Cell
  deriving DecidableEq, Repr

/-- The UTC base: a UTC second and the ship time at which it was taken (R191). -/
structure UtcBase where
  second : Nat
  shipTime : Nat
  deriving DecidableEq, Repr

/-- The sixteen conditions, in the order of section 12.1. -/
inductive Condition where
  | zoneChanged | zoneOverlap | positionStale | linkSwapped | noBackhaul | linkFault | cellLost | cellSilenceFault
  | epochTimeout | usageDiscarded | ticketWatermark | ticketBacklog | quotaAttention | regFailure | storeEvent | portError
  deriving DecidableEq, Repr

/-- The causes for which a control frame is discarded (R181). -/
inductive PortCause where
  | gap | length | crc | kind | overrun
  deriving DecidableEq, Repr

/-- The Control Port's state (11). `sent` is the send position: how many bytes of the frame at the head of the outbound queue have
been clocked out (R182). -/
structure Ctp where
  receiver : Receiver
  inbound : List InEntry
  outbound : List OutFrame
  sent : Nat
  gapCount : Nat
  lengthCount : Nat
  crcCount : Nat
  kindCount : Nat
  overrunCount : Nat
  conditions : CondSet
  mask : CondSet
  noticePending : Bool
  code : Option Code
  locked : Bool
  mismatches : Nat
  lockoutTimer : Timer
  load : Option Load
  utc : Option UtcBase
  deriving DecidableEq, Repr

/-- The store states (R192). -/
inductive StoreState where
  | ok | invalid | error | busy
  deriving DecidableEq, Repr

/-- What the configuration store keeps (R192). -/
structure Snapshot where
  zones : Option ZoneTable
  partners : Option (List PartnerEntry)
  tariffs : Option TariffTable
  patterns : Option (List PatternEntry)
  settings : Settings
  code : Option Code
  links : Vector LinkConfig 6
  disabled : Vector Bool 24
  deriving DecidableEq, Repr

/-- The Configuration Store's state (11): the store state, the valid non-volatile copy if there is one, and the snapshot
being written while the state is BUSY. -/
structure Cfs where
  state : StoreState
  copy : Option Snapshot
  writing : Option Snapshot
  deriving DecidableEq, Repr

/-! ### Frames to units and terminals (12.3, 12.4) -/

/-- The causes of a deck REFUSE (section 12.3). -/
inductive RefuseCause where
  | full | cellFull | noService | retryLater | roamingNotAllowed | shoreTimeout | disabled | subscriberUnknown
  | subscriberBarred | noAgreement | shoreRefused
  deriving DecidableEq, Repr

/-- A deck frame from the UM640 to a unit (R58); the absent beacon of UNSET is `none`. -/
inductive DeckFrame where
  | acceptServe (beacon : Option Beacon) (epoch : Nat)
  | acceptSilent
  | refuseJoin
  | refuse (cause : RefuseCause) (sid : Sid)
  | rejoin
  | grant (units : Nat)
  | dozeLight
  | dozeDeep
  | wake
  | retune (beacon : Option Beacon) (epoch : Nat)
  | silence
  | resume (beacon : Option Beacon) (epoch : Nat)
  | admission (sid : Sid) (ctx : Nat)
  | detach (sid : Sid) (ctx : Nat)
  | restrict (sid : Sid) (ctx : Nat)
  | lift (sid : Sid) (ctx : Nat)
  | cut (epoch : Nat)
  deriving DecidableEq, Repr

/-- A terminal frame from the UM640 to a terminal (R19, section 12.4); `regReq` is a SIGNAL carrying a REG_REQ. -/
inductive TermFrame where
  | probe (sequence : Nat)
  | carry
  | release
  | regReq (correlation : Nat) (sid : Sid) (jurisdiction partner shipId : Nat)
  deriving DecidableEq, Repr

/-- The frames sent on the deck and terminal ports and the bytes clocked out on the control port since the last hardware reset,
oldest first: the model's own record of the part's outputs (assumptions 4, 7). -/
structure Ports where
  deck : List (CellId × DeckFrame)
  terminal : List (LinkId × TermFrame)
  control : List Byte
  deriving DecidableEq, Repr

/-! ### Events between blocks -/

/-- The blocks that take a RESTART (R195). -/
inductive Block where
  | epc | cap | duc | sbt | rge | rte | tkq
  deriving DecidableEq, Repr

/-- The events delivered to a block and not yet taken, oldest first: openings at the EPC (R140), zone changes at the LKM
(R38) and the DUC (R86, R91), zone changes to a zone without service at the SBT (R113), re-evaluations at the RGE (R133),
capacities handed to the CAP (R45), and the blocks that have yet to take a RESTART (R195). -/
structure Mail where
  epc : List OpenReason
  lkm : List ZoneEvent
  duc : List ZoneEvent
  sbt : Nat
  rge : Nat
  cap : List Nat
  restart : List Block
  deriving DecidableEq, Repr

/-! ### The whole state -/

/-- The state of the UM640. -/
structure State where
  shipTime : Nat
  settings : Settings
  ctp : Ctp
  pzu : Pzu
  epc : Epc
  lkm : Lkm
  cap : Cap
  duc : Duc
  sbt : Sbt
  rge : Rge
  rte : Rte
  tkq : Tkq
  cfs : Cfs
  ports : Ports
  mail : Mail
  pending : List Instr
  deriving DecidableEq, Repr

/-- Why the machine stops with a fault: never. The manual describes no event that stops the part (assumption 22). -/
inductive Fault where
  deriving DecidableEq, Repr

/-- Why a command has no meaning. -/
inductive Refusal where
  /-- Raised by exec for a command that is not modelled yet, by its mnemonic; safe. No arm raises it. -/
  | notModelled (mnemonic : String)
  deriving DecidableEq, Repr

/-! ### Reset -/

/-- The defaults of every setting (R8, R12, R31, R46, R68, R78, R84, R90, R116, R135, R150, R176). -/
def Settings.default : Settings where
  confirmThreshold := 3
  staleTime := 60
  entryThreshold := 40
  exitThreshold := 25
  probePeriod := 2
  drainLimit := 10
  dwellTime := 60
  swapMargin := 10
  reserve := 4
  heartbeatPeriod := 2
  cutTimeout := 5
  idleTime := 300
  deepTime := 1800
  minAwake := 2
  doze := true
  events := #v[⟨.primary, true⟩, ⟨.primary, false⟩, ⟨.primary, true⟩, ⟨.secondary, false⟩, ⟨.ignored, false⟩,
    ⟨.secondary, false⟩]
  retuneWindow := 4
  cellLimit := 160
  graceTime := 30
  admissionUnlimited := false
  regTimeout := 8
  shipId := 0
  interval := 60
  watermark := 1536

/-- A link's stored fields in a blank store (R43). -/
def LinkConfig.blank : LinkConfig := ⟨false, .terrestrial, 16383, 0⟩

/-- A link record after a hardware reset, from its stored fields (R43): DOWN if enabled, else OFF. -/
def Link.start (cfg : LinkConfig) : Link where
  cfg := cfg
  state := if cfg.enabled then .down else .off
  last := none
  statusAge := 0
  probeSeq := 0
  probeOut := false
  goodEchoes := 0
  misses := 0
  lowQuality := 0
  carryTimer := none
  drainTimer := none
  holdOffTimer := none

/-- A cell record after a hardware reset (R75): DISABLED or ABSENT. -/
def Cell.start (disabled : Bool) : Cell where
  state := if disabled then .disabled else .absent
  serial := 0
  phase := .a
  good := false
  missed := 0
  heartbeatTimer := none
  power := .mains
  demand := 0
  grant := 0
  attached := 0
  beacon := none
  idleTimer := none
  deepTimer := none
  retuneTimer := none
  silenceTimer := none
  badFrames := 0
  target := none

/-- The control port after a hardware reset (R182, R184–R189), but for the operator code and the condition that the
start-up read may set. -/
def Ctp.start : Ctp where
  receiver := .hunting
  inbound := []
  outbound := []
  sent := 0
  gapCount := 0
  lengthCount := 0
  crcCount := 0
  kindCount := 0
  overrunCount := 0
  conditions := 0
  mask := 0
  noticePending := false
  code := none
  locked := false
  mismatches := 0
  lockoutTimer := none
  load := none
  utc := none

/-- The first epoch (R150). -/
def Epoch.first (zone : ZoneId) : Epoch where
  number := 0
  reason := .powerOn
  zone := zone
  linkClass := none
  tariffGen := 0
  partnerGen := 0
  opened := 0
  pendingSet := []
  cut := .none
  cutTimer := none

/-- The machine right after a hardware reset that found a blank configuration store (R193 and the reset rules of each
chapter); nothing waits in the queue. -/
def State.reset : State where
  shipTime := 0
  settings := Settings.default
  ctp := { Ctp.start with conditions := 0x4000#16 }
  pzu :=
    { table := none, current := 255, forced := none, candidate := none, confirmCount := 0, lastFix := none
      lastChange := none, position := .none, staleTimer := some 60000 }
  epc := { ring := [Epoch.first 255], retiredComplete := 0, retiredTimeout := 0, retiredForced := 0 }
  lkm :=
    { links := Vector.replicate 6 (Link.start LinkConfig.blank), dwellTimer := none, probeTimer := some 2000
      classHanded := none }
  cap := { carried := 0, pool := 0, pointer := 0, demandChanged := false, regrantTimer := some 2000 }
  duc :=
    { cells := Vector.replicate 24 (Cell.start false), retuneList := [], heldJoins := []
      lamp := { forced := none, pattern := .off, since := 0 } }
  sbt := { contexts := [], patterns := none }
  rge :=
    { generations := [⟨0, none⟩], queue := [], outstanding := [], nextCorrelation := 0, unmatched := 0 }
  rte := { generations := [⟨0, none⟩], attention := [], discarded := 0, lateEntries := 0 }
  tkq := { tickets := [], nextSeq := 0, holdList := [], refusals := 0, writeOff := ⟨0, 0, 0⟩ }
  cfs := { state := .invalid, copy := none, writing := none }
  ports := { deck := [], terminal := [], control := [] }
  mail := { epc := [], lkm := [], duc := [], sbt := 0, rge := 0, cap := [], restart := [] }
  pending := []

end Sys2Proof.Machine
end

