-- ==== Sys2Proof/Machine/Flags.lean ====
section
/-! DEFINITION. The part's flags: the sixteen latched conditions with their mask and the notice-pending flag (section 11.2),
the service lamp's pattern (section 5.6), and the ATTN and SVC outputs. -/

namespace Sys2Proof.Machine

/-- A condition's position in a condition set, from the least significant (section 12.1). -/
def Condition.position : Condition → Nat
  | .zoneChanged => 0
  | .zoneOverlap => 1
  | .positionStale => 2
  | .linkSwapped => 3
  | .noBackhaul => 4
  | .linkFault => 5
  | .cellLost => 6
  | .cellSilenceFault => 7
  | .epochTimeout => 8
  | .usageDiscarded => 9
  | .ticketWatermark => 10
  | .ticketBacklog => 11
  | .quotaAttention => 12
  | .regFailure => 13
  | .storeEvent => 14
  | .portError => 15

/-- The set that holds one condition. -/
def Condition.bit (c : Condition) : CondSet := BitVec.ofNat 16 (2 ^ c.position)

/-- Whether a condition is set (R184). -/
def State.condSet (s : State) (c : Condition) : Bool := s.ctp.conditions.getLsbD c.position

/-- A block sets a condition: it becomes set, and if it was clear and is enabled a notice becomes pending (R184, R185). -/
def setCond (c : Condition) (s : State) : State :=
  { s with
    ctp :=
      { s.ctp with
        conditions := s.ctp.conditions ||| c.bit
        noticePending := s.ctp.noticePending || (!s.condSet c && s.ctp.mask.getLsbD c.position) } }

/-- COND_CLEAR's effect: the named conditions become clear, the others are kept (R184). -/
def clearConds (named : CondSet) (s : State) : State :=
  { s with ctp := { s.ctp with conditions := s.ctp.conditions &&& ~~~named } }

/-- COND_MASK's effect: the mask is replaced, and a notice becomes pending if it enables a condition that is set and was
not enabled (R184, R185). -/
def setMask (mask : CondSet) (s : State) : State :=
  { s with
    ctp :=
      { s.ctp with
        mask := mask
        noticePending := s.ctp.noticePending || (s.ctp.conditions &&& mask &&& ~~~s.ctp.mask) != 0#16 } }

/-- The pattern the SVC output shows: the forced one, or R93's first row whose condition holds. -/
def State.lampWanted (s : State) : Pattern :=
  match s.duc.lamp.forced with
  | some p => p
  | none =>
    let cells := s.duc.cells.toList
    let links := s.lkm.links.toList
    if !cells.any (fun c => c.state == .serving || c.state == .doze || c.state == .deep) then .off
    else if !links.any (fun l => l.state == .carrying) then .slow
    else if links.any (fun l => l.state == .engaging)
        || cells.any (fun c => c.state == .retuning || c.state == .silencing) || !s.duc.retuneList.isEmpty then .fast
    else .steady

/-- Brings the lamp to the pattern it should show; a change of pattern starts the new one at its lit part (R93). -/
def refreshLamp (s : State) : State :=
  if s.lampWanted = s.duc.lamp.pattern then s
  else { s with duc := { s.duc with lamp := { s.duc.lamp with pattern := s.lampWanted, since := s.shipTime } } }

/-- Whether a pattern is lit a given time after it began (R93). -/
def Pattern.lit (p : Pattern) (elapsed : Nat) : Bool :=
  match p with
  | .off => false
  | .slow => decide (elapsed % 1000 < 500)
  | .fast => decide (elapsed % 250 < 125)
  | .steady => true

/-- The SVC output (R93, R94). -/
def State.svc (s : State) : Bool := s.duc.lamp.pattern.lit (s.shipTime - s.duc.lamp.since)

/-- The ATTN output: asserted while the outbound queue holds at least one frame (R182). -/
def State.attn (s : State) : Bool := !s.ctp.outbound.isEmpty

end Sys2Proof.Machine
end

