-- ==== Sys2Proof/Machine/Operands.lean ====
section
/-! DEFINITION. The operand encodings of 12_frame_and_record_formats.md: common encodings, the CRC, control frames, the
checks a request body, a deck frame and a terminal frame pass before any rule takes them, and the bytes of the frames
and tickets the UM640 sends. -/

namespace Sys2Proof.Machine

/-! ### Numbers as bytes (12.1) -/

/-- `n` bytes of `v`, big-endian. -/
def be : Nat → Nat → List Byte
  | 0, _ => []
  | n + 1, v => BitVec.ofNat 8 (v / 256 ^ n) :: be n v

/-- The number that big-endian bytes hold. -/
def beNat (bs : List Byte) : Nat := bs.foldl (fun a b => a * 256 + b.toNat) 0

/-- The 32-bit two's complement word of a number. -/
def word32 (i : Int) : Nat := (i % 4294967296).toNat

/-- The number that a 32-bit two's complement word holds. -/
def signed32 (n : Nat) : Int := if n < 2147483648 then n else (n : Int) - 4294967296

/-- Yes or no, in one byte. -/
def yesNo (b : Bool) : List Byte := be 1 (if b then 1 else 0)

/-- An item that may be absent: a presence byte, and the item's bytes when it is present (section 12.2). -/
def presence {α : Type} (encode : α → List Byte) : Option α → List Byte
  | none => be 1 0
  | some a => be 1 1 ++ encode a

/-- The remaining time of a timer, in milliseconds; 0xFFFFFFFF when it is stopped. -/
def remaining (now : Nat) : Timer → List Byte
  | none => be 4 max32
  | some deadline => be 4 (deadline - now)

/-- A link kind or class in one byte. -/
def LinkKind.number : LinkKind → Nat
  | .terrestrial => 1
  | .microwave => 2
  | .satellite => 3

/-- The link kind a byte names, if it names one (NONE is not a link kind). -/
def LinkKind.ofNumber : Nat → Option LinkKind
  | 1 => some .terrestrial
  | 2 => some .microwave
  | 3 => some .satellite
  | _ => none

/-- A link class in one byte. -/
def classNumber : LinkClass → Nat
  | none => 0
  | some k => k.number

/-- A set of link kinds in one byte (section 12.6). -/
def KindSet.number (k : KindSet) : Nat :=
  (if k.terrestrial then 1 else 0) + (if k.microwave then 2 else 0) + (if k.satellite then 4 else 0)

/-- A beacon identity in three bytes; 0xFFFFFF when it is absent. -/
def beaconBytes : Option Beacon → List Byte
  | none => be 3 0xFFFFFF
  | some b => be 3 b.toNat

/-- A partner id in two bytes; 0xFFFF for none. -/
def partnerBytes : Option Nat → List Byte
  | none => be 2 0xFFFF
  | some p => be 2 p

/-- A restriction set in one byte (section 12.1). -/
def Restrictions.number (r : Restrictions) : Nat :=
  (if r.quota then 1 else 0) + (if r.backlog then 2 else 0) + (if r.zone then 4 else 0)

/-- A set of cells in four bytes (section 12.1). -/
def cellSetBytes (cells : List CellId) : List Byte :=
  be 4 ((cells.map fun c => 2 ^ c.val).sum)

/-! ### Packed decimal identities (12.1) -/

/-- The i-th half-byte of a SID, from 0 at the first digit. -/
def sidDigit (sid : Sid) (i : Nat) : Nat := sid.toNat / 16 ^ (15 - i) % 16

/-- Whether a SID has fifteen decimal digits and a 16th half-byte 0xF (R196). -/
def sidValid (sid : Sid) : Bool :=
  (List.range 15).all (fun i => sidDigit sid i ≤ 9) && sidDigit sid 15 == 15

/-- The i-th half-byte of a beacon identity, from 0. -/
def beaconDigit (b : Beacon) (i : Nat) : Nat := b.toNat / 16 ^ (5 - i) % 16

/-- Whether a beacon identity has 5 or 6 packed digits (R3, R196). -/
def beaconValid (b : Beacon) : Bool :=
  (List.range 5).all (fun i => beaconDigit b i ≤ 9) && (beaconDigit b 5 ≤ 9 || beaconDigit b 5 == 15)

/-! ### The CRC of a control frame (R181) -/

/-- One shift of the CRC register, polynomial 0x1021. -/
def crcShift (c : BitVec 16) : BitVec 16 :=
  if c.msb then (c <<< 1) ^^^ 0x1021#16 else c <<< 1

/-- One byte into the CRC register, most significant bit first. -/
def crcByte (c : BitVec 16) (b : Byte) : BitVec 16 :=
  Nat.repeat crcShift 8 (c ^^^ (b.setWidth 16 <<< 8))

/-- The CRC-16 of a run of bytes: initial value 0xFFFF, no reflection, no final exclusive-or. -/
def crc16 (bs : List Byte) : BitVec 16 := bs.foldl crcByte 0xFFFF#16

/-- A control frame on the wire (section 12.2). -/
def controlBytes (kind tag code : Nat) (body : List Byte) : List Byte :=
  let covered := be 2 body.length ++ be 1 kind ++ be 1 tag ++ be 1 code ++ body
  0xC3#8 :: covered ++ be 2 (crc16 covered).toNat

/-- The kind byte of an outgoing control frame. -/
def OutKind.number : OutKind → Nat
  | .reply => 2
  | .busy => 2
  | .notice => 3

/-- An outgoing control frame on the wire. -/
def OutFrame.bytes (f : OutFrame) : List Byte := controlBytes f.kind.number f.tag f.code f.body

/-- The reply status codes (section 12.2). -/
def Status.number : Status → Nat
  | .ok => 0
  | .clamped => 1
  | .held => 2
  | .busy => 3
  | .locked => 4
  | .badArg => 5
  | .notFound => 6
  | .state => 8
  | .loadInvalid => 9
  | .loadMismatch => 10

/-! ### Requests (12.2) -/

/-- The body lengths that a request code admits (section 12.2, R196); none for a code that names no request. -/
def requestLengths (code : Nat) : Option (Nat × Nat) :=
  match code with
  | 0x01 => some (13, 13)
  | 0x02 => some (1, 1)
  | 0x03 => some (0, 0)
  | 0x04 => some (0, 1)
  | 0x10 => some (2, 2)
  | 0x11 => some (1, 1)
  | 0x12 => some (4, 4)
  | 0x13 => some (1, 1)
  | 0x20 => some (1, 1)
  | 0x21 => some (1, 1)
  | 0x22 => some (2, 2)
  | 0x23 => some (1, 1)
  | 0x30 => some (2, 2)
  | 0x31 => some (8, 8)
  | 0x32 => some (2, 2)
  | 0x33 => some (2, 2)
  | 0x40 => some (11, 11)
  | 0x41 => some (0, 0)
  | 0x50 => some (1, 1)
  | 0x51 => some (4, 4)
  | 0x60 => some (5, 5)
  | 0x61 => some (1, 1)
  | 0x62 => some (4, 4)
  | 0x63 => some (2, 2)
  | 0x64 => some (2, 2)
  | 0x65 => some (1, 1)
  | 0x66 => some (8, 8)
  | 0x67 => some (0, 0)
  | 0x68 => some (8, 8)
  | 0x69 => some (7, 7)
  | 0x6A => some (2, 1024)
  | 0x6B => some (0, 0)
  | 0x6C => some (0, 0)
  | 0x6D => some (0, 0)
  | 0x6E => some (0, 0)
  | _ => none

/-- Whether a code names a request (R183). -/
def isRequest (code : Nat) : Bool := (requestLengths code).isSome

/-- Whether a request is protected by the lock (section 11.3): LOAD_BEGIN, LOAD_DATA, LOAD_COMMIT, QUOTA_GRANT, CODE_SET,
STORE_SAVE, ZONE_FORCE and RESTART. -/
def isProtected (code : Nat) : Bool :=
  [0x69, 0x6A, 0x6B, 0x40, 0x68, 0x6C, 0x02, 0x6E].contains code

/-- Whether a request's body passes its encoding checks (R196): its length fits the code, and a SID field is a SID. -/
def bodyFits (code : Nat) (body : List Byte) : Bool :=
  match requestLengths code with
  | none => false
  | some (lo, hi) =>
    decide (lo ≤ body.length) && decide (body.length ≤ hi)
      && (code != 0x31 || sidValid (BitVec.ofNat 64 (beNat body)))

/-! ### Deck frames from units (12.3, R196) -/

/-- Whether an ACTIVITY list passes its checks: 1 to 16 event kinds, each listed. -/
def activityValid (kinds : List Nat) : Bool :=
  decide (1 ≤ kinds.length) && decide (kinds.length ≤ 16) && kinds.all (· ≤ 5)

/-- Whether a USAGE list passes its checks: 1 to 64 entries. -/
def usageCountValid (n : Nat) : Bool := decide (1 ≤ n) && decide (n ≤ 64)

/-- Whether a deck frame's kind is one that units send and its body passes the kind's encoding checks. -/
def deckFrameValid (kind : Nat) (body : List Byte) : Bool :=
  let byteAt (i : Nat) : Nat := (body[i]?.getD 0).toNat
  let sidOk := sidValid (BitVec.ofNat 64 (beNat (body.take 8)))
  match kind with
  | 0x01 => body.length == 4
  | 0x05 => body.length == 4 && decide (byteAt 0 ≤ 1) && decide (byteAt 1 ≤ 1)
  | 0x07 => body.length == 1 + byteAt 0 && activityValid ((body.drop 1).map BitVec.toNat)
  | 0x0B => body.length == 3 && beaconValid (BitVec.ofNat 24 (beNat body))
  | 0x0D => body.length == 0
  | 0x10 => body.length == 8 && sidOk
  | 0x12 => body.length == 10 && sidOk
  | 0x20 => body.length == 2 + 10 * byteAt 1 && usageCountValid (byteAt 1)
  | 0x22 => body.length == 1
  | _ => false

/-- What the deck port makes of a payload's header (R59, R196): the unit address, and whether kind and body are valid;
none where the header cannot be read. -/
def deckHeader (payload : List Byte) : Option (Nat × Bool) :=
  match payload with
  | unit :: kind :: l1 :: l0 :: rest =>
    let len := beNat [l1, l0]
    if len ≤ rest.length then some (unit.toNat, deckFrameValid kind.toNat (rest.take len)) else none
  | _ => none

/-! ### Terminal frames from terminals (12.4, R196) -/

/-- Whether a terminal frame's kind is one of section 12.4 and its body passes the kind's encoding checks. -/
def terminalBodyValid (kind : Nat) (body : List Byte) : Bool :=
  let byteAt (i : Nat) : Nat := (body[i]?.getD 0).toNat
  match kind with
  | 0x01 => body.length == 6 && decide (byteAt 0 ≤ 1)
  | 0x02 | 0x03 => body.length == 2
  | 0x04 | 0x05 | 0x06 | 0x07 => body.length == 0
  | 0x08 => body.length == 5 && byteAt 0 == 2 && decide (byteAt 3 ≤ 1)
  | _ => false

/-- Whether a terminal port payload has a readable header, a link number from 0 to 5 and a valid body (R19, R196). -/
def terminalFrameValid (payload : List Byte) : Bool :=
  match payload with
  | link :: kind :: l1 :: l0 :: rest =>
    let len := beNat [l1, l0]
    decide (link.toNat ≤ 5) && decide (len ≤ rest.length) && terminalBodyValid kind.toNat (rest.take len)
  | _ => false

/-! ### Frames to units and terminals (12.3, 12.4) -/

/-- The causes of a REFUSE (section 12.3). -/
def RefuseCause.number : RefuseCause → Nat
  | .full => 1
  | .cellFull => 2
  | .noService => 3
  | .retryLater => 4
  | .roamingNotAllowed => 5
  | .shoreTimeout => 6
  | .disabled => 7
  | .subscriberUnknown => 8
  | .subscriberBarred => 9
  | .noAgreement => 10
  | .shoreRefused => 11

/-- The kind byte and the body of a deck frame to a unit (section 12.3). -/
def DeckFrame.words : DeckFrame → Nat × List Byte
  | .acceptServe b e => (0x02, be 1 0 ++ beaconBytes b ++ be 1 e)
  | .acceptSilent => (0x02, be 1 1 ++ be 3 0xFFFFFF ++ be 1 0)
  | .refuseJoin => (0x03, be 1 7 ++ be 8 0xFFFFFFFFFFFFFFFF)
  | .refuse cause sid => (0x03, be 1 cause.number ++ be 8 sid.toNat)
  | .rejoin => (0x04, [])
  | .grant units => (0x06, be 2 units)
  | .dozeLight => (0x08, be 1 0)
  | .dozeDeep => (0x08, be 1 1)
  | .wake => (0x09, [])
  | .retune b e => (0x0A, beaconBytes b ++ be 1 e)
  | .silence => (0x0C, [])
  | .resume b e => (0x0E, beaconBytes b ++ be 1 e)
  | .admission sid k => (0x11, be 8 sid.toNat ++ be 2 k)
  | .detach sid k => (0x12, be 8 sid.toNat ++ be 2 k)
  | .restrict sid k => (0x13, be 8 sid.toNat ++ be 2 k)
  | .lift sid k => (0x14, be 8 sid.toNat ++ be 2 k)
  | .cut e => (0x21, be 1 e)

/-- A deck frame's payload on the deck port. -/
def DeckFrame.bytes (c : CellId) (f : DeckFrame) : List Byte :=
  be 1 c.val ++ be 1 f.words.1 ++ be 2 f.words.2.length ++ f.words.2

/-- The kind byte and the body of a terminal frame to a terminal (section 12.4). -/
def TermFrame.words : TermFrame → Nat × List Byte
  | .probe n => (0x02, be 2 n)
  | .carry => (0x04, [])
  | .release => (0x06, [])
  | .regReq corr sid jur partner ship =>
    (0x08, be 1 1 ++ be 2 corr ++ be 8 sid.toNat ++ be 2 jur ++ be 1 partner ++ be 4 ship)

/-- A terminal frame's payload on the terminal port. -/
def TermFrame.bytes (l : LinkId) (f : TermFrame) : List Byte :=
  be 1 l.val ++ be 1 f.words.1 ++ be 2 f.words.2.length ++ f.words.2

/-! ### The ticket record (12.5) -/

/-- The close reason codes. -/
def CloseReason.number : CloseReason → Nat
  | .zone => 0
  | .partner => 1
  | .tariff => 2
  | .linkClass => 3
  | .detach => 4
  | .cellLost => 5
  | .serviceOff => 6
  | .host => 7
  | .interval => 8
  | .restart => 9
  | .late => 10

/-- The flags byte of a ticket. -/
def Ticket.flags (t : Ticket) : Nat :=
  (if t.late then 1 else 0) + (if t.saturated then 2 else 0) + (if t.timeUnset then 4 else 0)
    + (if t.feeApplied then 8 else 0) + (if t.key.partner.isNone then 16 else 0) + (if t.overrun.isSome then 32 else 0)

/-- The 63 bytes of a ticket. -/
def Ticket.bytes (t : Ticket) : List Byte :=
  be 4 t.seq ++ be 2 t.ctx ++ be 8 t.sid.toNat ++ be 1 t.key.zone ++ be 1 (t.key.partner.getD 0) ++ be 1 t.key.tariff
    ++ be 1 t.key.generation ++ be 1 (64 * classNumber t.key.linkClass + t.reason.number) ++ be 1 t.firstEpoch
    ++ be 1 t.lastEpoch ++ be 1 t.flags ++ be 4 t.startTime ++ be 4 t.endTime ++ be 6 t.up ++ be 6 t.down
    ++ be 6 t.blocks ++ be 5 t.charge ++ be 5 t.balance ++ be 5 (t.overrun.getD 0)

end Sys2Proof.Machine
end

