-- ==== Sys2Proof/Machine/Ops.lean ====
section
/-! DEFINITION. The named operations the meanings share: sparse tables, the staging buffer, records by index, timers, frames to
units and terminals, mailboxes, the current zone, partner and tariff lookups, and the restriction set. -/

namespace Sys2Proof.Machine

/-! ### Sparse tables: lists of (index, entry), indices rising -/

/-- The entry at an index. -/
def Assoc.get {α : Type} : List (Nat × α) → Nat → Option α
  | [], _ => none
  | (k, v) :: t, i => if k = i then some v else Assoc.get t i

/-- The list with an entry put at an index. -/
def Assoc.put {α : Type} : List (Nat × α) → Nat → α → List (Nat × α)
  | [], i, v => [(i, v)]
  | (k, w) :: t, i, v =>
    if i < k then (i, v) :: (k, w) :: t
    else if i = k then (i, v) :: t
    else (k, w) :: Assoc.put t i v

/-- The list without the entry at an index. -/
def Assoc.erase {α : Type} (l : List (Nat × α)) (i : Nat) : List (Nat × α) := l.filter (fun e => e.1 != i)

/-- The lowest index not below `n` that a rising list does not hold. -/
def Assoc.lowestFree {α : Type} : List (Nat × α) → Nat → Nat
  | [], n => n
  | (k, _) :: t, n => if k = n then Assoc.lowestFree t (n + 1) else n

/-! ### The staging buffer (R188): offsets rising, an unlisted offset not written -/

/-- Whether the staged cells are in their canonical form. -/
abbrev Staging.wf (cells : List Host.Cell) : Prop := cells.Pairwise (fun a b => a.1 < b.1)

/-- The bytes of a chunk with their offsets. -/
def Staging.chunk (offset : Nat) : List Byte → List Host.Cell
  | [] => []
  | b :: t => (offset, b) :: Staging.chunk (offset + 1) t

/-- A chunk written from an offset; offsets already written are overwritten. -/
def Staging.write (cells : List Host.Cell) (offset : Nat) (bytes : List Byte) : List Host.Cell :=
  cells.filter (fun c => c.1 < offset) ++ Staging.chunk offset bytes
    ++ cells.filter (fun c => offset + bytes.length ≤ c.1)

/-- The byte staged at an offset; none where nothing has been written. -/
def Staging.read (cells : List Host.Cell) (offset : Nat) : Option Byte :=
  (cells.find? (fun c => c.1 == offset)).map Prod.snd

/-- The sum of the staged bytes modulo 2^32 (R189). -/
def Staging.sum (cells : List Host.Cell) : Nat := (cells.map fun c => c.2.toNat).sum % 4294967296

/-! ### Records by index -/

/-- Every cell index, rising. -/
def allCells : List CellId := [0, 1, 2, 3, 4, 5, 6, 7, 8, 9, 10, 11, 12, 13, 14, 15, 16, 17, 18, 19, 20, 21, 22, 23]

/-- Every link index, rising. -/
def allLinks : List LinkId := [0, 1, 2, 3, 4, 5]

/-- The cell at a unit address; none above 23. -/
def cellAt (n : Nat) : Option CellId := if h : n < 24 then some ⟨n, h⟩ else none

/-- The link at a link number; none above 5. -/
def linkAt (n : Nat) : Option LinkId := if h : n < 6 then some ⟨n, h⟩ else none

/-- A cell's record. -/
def State.cell (s : State) (c : CellId) : Cell := s.duc.cells.get c

/-- A cell's record replaced. -/
def setCell (c : CellId) (x : Cell) (s : State) : State :=
  { s with duc := { s.duc with cells := s.duc.cells.set c.val x c.isLt } }

/-- A cell's record changed. -/
def modCell (c : CellId) (f : Cell → Cell) (s : State) : State := setCell c (f (s.cell c)) s

/-- A link's record. -/
def State.link (s : State) (l : LinkId) : Link := s.lkm.links.get l

/-- A link's record replaced. -/
def setLink (l : LinkId) (x : Link) (s : State) : State :=
  { s with lkm := { s.lkm with links := s.lkm.links.set l.val x l.isLt } }

/-- A link's record changed. -/
def modLink (l : LinkId) (f : Link → Link) (s : State) : State := setLink l (f (s.link l)) s

/-- The context in use at an index; none for a FREE one. -/
def State.context (s : State) (k : Nat) : Option Context := Assoc.get s.sbt.contexts k

/-- A context put at an index. -/
def setContext (k : Nat) (x : Context) (s : State) : State :=
  { s with sbt := { s.sbt with contexts := Assoc.put s.sbt.contexts k x } }

/-- A context in use changed; nothing for a FREE one. -/
def modContext (k : Nat) (f : Context → Context) (s : State) : State :=
  match s.context k with
  | none => s
  | some x => setContext k (f x) s

/-- The indices of the contexts in use, rising. -/
def State.contextIndices (s : State) : List Nat := s.sbt.contexts.map Prod.fst

/-- An operation taken for each index of a list in turn. -/
def forEach {α : Type} (items : List α) (f : α → State → State) (s : State) : State :=
  items.foldl (fun t a => f a t) s

/-! ### Timers -/

/-- The deadline of a timer armed now with a number of seconds. -/
def State.deadline (s : State) (seconds : Nat) : Nat := s.shipTime + 1000 * seconds

/-- An expiry is an event at the deadline: the ship time is brought to it if it had not been reached (assumption 3). -/
def reachDeadline (deadline : Nat) (s : State) : State := { s with shipTime := max s.shipTime deadline }

/-- An expiry of a timer: nothing where the timer is stopped; else the deadline is reached and the effect follows. -/
def atExpiry (t : Timer) (effect : State → State) (s : State) : State :=
  match t with
  | none => s
  | some d => effect (reachDeadline d s)

/-! ### The end of a command -/

/-- The outcome of every command: the lamp is brought up to date, and the state is the next one. -/
def done (s : State) : Host.Outcome State Fault Refusal := .next (refreshLamp s)

/-! ### Frames to units and terminals -/

/-- The states in which a cell has an acceptance on record (R61). -/
def CellState.joined : CellState → Bool
  | .serving | .doze | .deep | .retuning | .silencing | .silent => true
  | .absent | .lost | .disabled => false

/-- A deck frame of the DUC's own, sent whatever the cell's state (R61). -/
def emitDeck (c : CellId) (f : DeckFrame) (s : State) : State :=
  { s with ports := { s.ports with deck := s.ports.deck ++ [(c, f)] } }

/-- A deck frame another block asks for: sent where the cell is joined, else held back (R61). -/
def sendDeck (c : CellId) (f : DeckFrame) (s : State) : State :=
  if (s.cell c).state.joined then emitDeck c f s else s

/-- A terminal frame (R19). -/
def sendTerminal (l : LinkId) (f : TermFrame) (s : State) : State :=
  { s with ports := { s.ports with terminal := s.ports.terminal ++ [(l, f)] } }

/-- A bad frame counted at a cell, saturating (R59). -/
def countBad (c : CellId) (s : State) : State :=
  modCell c (fun x => { x with badFrames := satAdd max16 x.badFrames 1 }) s

/-! ### Mailboxes -/

/-- An opening delivered to the EPC (R140). -/
def mailEpoch (r : OpenReason) (s : State) : State := { s with mail := { s.mail with epc := s.mail.epc ++ [r] } }

/-- A capacity handed to the CAP (R45). -/
def mailCapacity (n : Nat) (s : State) : State := { s with mail := { s.mail with cap := s.mail.cap ++ [n] } }

/-- Whether a RESTART is running: some block has yet to take it (R195). -/
def State.restarting (s : State) : Bool := !s.mail.restart.isEmpty

/-! ### The current zone (R2, R5) -/

/-- The built-in zone UNSET (R2); its priority is a free value (assumption 8). -/
def unsetZone : ZoneRecord where
  kind := .international
  jurisdiction := 0
  priority := Config.unsetPriority.val
  service := false
  kinds := ⟨false, false, false⟩
  beacon := none
  rects := []

/-- The record at an index of the live table. -/
def State.zoneRecord (s : State) (z : ZoneId) : Option ZoneRecord :=
  match s.pzu.table with
  | none => none
  | some t => Assoc.get t.zones z

/-- The current zone's record; UNSET's while no table is live (R2). -/
def State.zone (s : State) : ZoneRecord := (s.zoneRecord s.pzu.current).getD unsetZone

/-- Whether a set of link kinds holds a kind. -/
def KindSet.has (k : KindSet) : LinkKind → Bool
  | .terrestrial => k.terrestrial
  | .microwave => k.microwave
  | .satellite => k.satellite

/-! ### Partner entries (R119) -/

/-- The entry of every pair while no table has been committed, and of UNSET (R119, R137). -/
def PartnerEntry.none : PartnerEntry := ⟨.forbidden, 0, 0⟩

/-- The entry of a generation at a zone and home group. -/
def PartnerGen.entry (g : PartnerGen) (zone group : Nat) : PartnerEntry :=
  if zone < 32 then
    match g.table with
    | Option.none => PartnerEntry.none
    | some t => (t[zone * 16 + group]?).getD PartnerEntry.none
  else PartnerEntry.none

/-- The newest partner generation. -/
def State.newestPartner (s : State) : PartnerGen := (s.rge.generations.getLast?).getD ⟨0, none⟩

/-- The partner entry of the current zone and a home group in the newest generation (R119). -/
def State.partnerEntry (s : State) (group : Nat) : PartnerEntry := s.newestPartner.entry s.pzu.current group

/-! ### Tariffs (R151) -/

/-- The table of defaults (R151). -/
def TariffTable.default : TariffTable := ⟨Vector.replicate 16 ⟨0, 1024, 0⟩, Vector.replicate 4 1000⟩

/-- A generation's table. -/
def TariffGen.values (g : TariffGen) : TariffTable := g.table.getD TariffTable.default

/-- The newest tariff generation. -/
def State.newestTariff (s : State) : TariffGen := (s.rte.generations.getLast?).getD ⟨0, none⟩

/-! ### The epoch ring (R138, R149) -/

/-- The newest epoch. -/
def State.newestEpoch (s : State) : Epoch := (s.epc.ring.getLast?).getD (Epoch.first 255)

/-- The oldest epoch. -/
def State.oldestEpoch (s : State) : Epoch := (s.epc.ring.head?).getD (Epoch.first 255)

/-- The held epoch with a number. -/
def State.heldEpoch (s : State) (n : Nat) : Option Epoch := s.epc.ring.find? (fun e => e.number == n)

/-- An epoch number's age: its place in the ring from 1, and 0, older than every held epoch, where it is not held (R149). -/
def State.epochAge (s : State) (n : Nat) : Nat :=
  match s.epc.ring.findIdx? (fun e => e.number == n) with
  | none => 0
  | some i => i + 1

/-! ### Restrictions (R115) -/

/-- Whether a restriction set is empty. -/
def Restrictions.isEmpty (r : Restrictions) : Bool := !r.quota && !r.backlog && !r.zone

/-- A change of a context's restriction set, with the RESTRICT or LIFT an ACTIVE context's unit is sent (R115). -/
def restrict (k : Nat) (f : Restrictions → Restrictions) (s : State) : State :=
  match s.context k with
  | none => s
  | some x =>
    let new := f x.restrictions
    let s1 := setContext k { x with restrictions := new } s
    if x.state == .active && x.restrictions.isEmpty && !new.isEmpty then sendDeck x.cell (.restrict x.sid k) s1
    else if x.state == .active && !x.restrictions.isEmpty && new.isEmpty then sendDeck x.cell (.lift x.sid k) s1
    else s1

end Sys2Proof.Machine
end

