-- ==== Sys2Proof/Machine/Capacity.lean ====
section
/-! DEFINITION. The Capacity Arbiter (03_capacity_pool_and_grants.md): the pool, the division of grants, cells entering and leaving
service, and the meanings of CAPACITY_HANDOVER and REGRANT_TIMER_EXPIRY. -/

namespace Sys2Proof.Machine

/-- The serving cells, rising (section 3.3). -/
def State.serving (s : State) : List CellId := allCells.filter (fun c => (s.cell c).state == .serving)

/-- The sum, over the serving cells, of the smaller of the demand and a level (R48). -/
def State.levelSum (s : State) (level : Nat) : Nat := (s.serving.map fun c => min (s.cell c).demand level).sum

/-- The total demand D (section 3.3). -/
def State.totalDemand (s : State) : Nat := (s.serving.map fun c => (s.cell c).demand).sum

/-- The largest demand of a serving cell. -/
def State.topDemand (s : State) : Nat := (s.serving.map fun c => (s.cell c).demand).foldl max 0

/-- The level L: the largest for which the level sum is at most the pool (R48 step 1). -/
def State.grantLevel (s : State) : Nat := Nat.findGreatest (fun l => s.levelSum l ≤ s.cap.pool) s.topDemand

/-- The serving cells whose demand exceeds a level, counted from the rotation pointer and wrapping (R48 step 2). -/
def State.rotation (s : State) (level : Nat) : List CellId :=
  let above := s.serving.filter (fun c => level < (s.cell c).demand)
  above.filter (fun c => s.cap.pointer ≤ c.val) ++ above.filter (fun c => c.val < s.cap.pointer)

/-- How a recomputation divides the pool: the level L and the cells given one of the leftover units (R48), or `none` where the
total demand fits the pool (R47). -/
def State.division (s : State) : Option (Nat × List CellId) :=
  if s.totalDemand ≤ s.cap.pool then none
  else
    let level := s.grantLevel
    some (level, (s.rotation level).take (s.cap.pool - s.levelSum level))

/-- A cell's grant under a division (R47, R48, R49). -/
def State.share (s : State) (division : Option (Nat × List CellId)) (c : CellId) : Nat :=
  if (s.cell c).state ≠ .serving then 0
  else
    match division with
    | none => (s.cell c).demand
    | some (level, extra) => min (s.cell c).demand level + (if extra.contains c then 1 else 0)

/-- The rotation pointer after a division: past the last cell given a leftover unit, if one was (R48 step 3). -/
def nextPointer (pointer : Nat) (division : Option (Nat × List CellId)) : Nat :=
  match division.bind (fun d => d.2.getLast?) with
  | none => pointer
  | some c => (c.val + 1) % 24

/-- Every stored grant replaced at once by its share, the pointer moved and the demand-changed flag cleared (R49). -/
def storeGrants (division : Option (Nat × List CellId)) (s : State) : State :=
  { s with
    duc := { s.duc with cells := Vector.ofFn fun c => { s.cell c with grant := s.share division c } }
    cap := { s.cap with pointer := nextPointer s.cap.pointer division, demandChanged := false } }

/-- A recomputation of grants, with its GRANT frames: decreases and then increases, each in rising cell order (R47–R50). -/
def recompute (s : State) : State :=
  let d := s.division
  let falls := s.serving.filter (fun c => s.share d c < (s.cell c).grant)
  let rises := s.serving.filter (fun c => (s.cell c).grant < s.share d c)
  forEach (falls ++ rises) (fun c => sendDeck c (.grant (s.share d c))) (storeGrants d s)

/-- A cell's grant set to 0 without a frame. -/
def clearGrant (c : CellId) (s : State) : State := modCell c (fun x => { x with grant := 0 }) s

/-- A cell has entered SERVING: a recomputation with it (R51). -/
def enterServing (s : State) : State := recompute s

/-- A cell has left SERVING: its grant is 0, and a recomputation without it (R52). -/
def leaveServing (c : CellId) (s : State) : State := recompute (clearGrant c s)

/-- The CAP takes a value of C: it is stored, the pool recomputed, and the grants if the pool has changed (R45). -/
def takeCapacity (n : Nat) (s : State) : State :=
  let s1 := { s with cap := { s.cap with carried := n, pool := n - s.settings.reserve } }
  if n - s.settings.reserve = s.cap.pool then s1 else recompute s1

/-- CAPACITY_HANDOVER: the CAP takes the oldest capacity handed to it (R45); nothing where none has been (assumption 2). -/
def execCapacityHandover (s : State) : Host.Outcome State Fault Refusal :=
  done
    (match s.mail.cap with
    | [] => s
    | n :: rest => takeCapacity n { s with mail := { s.mail with cap := rest } })

/-- The regrant timer re-armed with its fixed period of 2 s (R54). -/
def armRegrant (s : State) : State := { s with cap := { s.cap with regrantTimer := some (s.deadline 2) } }

/-- REGRANT_TIMER_EXPIRY: the timer is re-armed, and a set demand-changed flag brings a recomputation (R54). -/
def execRegrantTimerExpiry (s : State) : Host.Outcome State Fault Refusal :=
  done
    (atExpiry s.cap.regrantTimer
      (fun t => if t.cap.demandChanged then recompute (armRegrant t) else armRegrant t) s)

/-- A cell's grant zeroed at the CAP's restart. -/
def zeroGrants (s : State) : State :=
  { s with duc := { s.duc with cells := s.duc.cells.map (fun x => { x with grant := 0 }) } }

/-- The CAP's restart: grants 0, pointer 0, flag clear, and a recomputation over the cells then serving (R56). -/
def capRestartEffect (s : State) : State :=
  let s1 := zeroGrants s
  recompute { s1 with cap := { s1.cap with pointer := 0, demandChanged := false } }

end Sys2Proof.Machine
end

