-- ==== Sys2Proof/Machine/Charging.lean ====
section
/-! DEFINITION. The shared operations of rating: the quota debit and its notification, the rating key, the ticket queue's append
and gate, the close of an accumulator, and the rating of one entry (09_rating_and_quota.md, 10_usage_tickets.md). -/

namespace Sys2Proof.Machine

/-! ### The quota attention list (R163) -/

/-- A context joins the attention list at the tail, or is upgraded to EMPTY in its place; each sets QUOTA_ATTENTION (R162,
R163). A context already listed EMPTY, or joining LOW while listed, stays as it is. -/
def joinAttention (k : Nat) (r : AttentionReason) (s : State) : State :=
  match s.rte.attention.find? (fun e => e.1 == k) with
  | none => setCond .quotaAttention { s with rte := { s.rte with attention := s.rte.attention ++ [(k, r)] } }
  | some e =>
    if r == .empty && e.2 == .low then
      setCond .quotaAttention
        { s with
          rte := { s.rte with attention := s.rte.attention.map (fun e => if e.1 == k then (k, .empty) else e) } }
    else s

/-- A context leaves the attention list (R108). -/
def leaveAttention (k : Nat) (s : State) : State :=
  { s with rte := { s.rte with attention := s.rte.attention.filter (fun e => e.1 != k) } }

/-! ### The quota debit (R161, R162) -/

/-- A limited quota after a debit of `d`. -/
def Quota.debited (q : Quota) (d : Nat) : Quota :=
  if d < q.balance then { q with balance := q.balance - d }
  else { q with balance := 0, overrun := satAdd maxMoney q.overrun (d - q.balance) }

/-- The low-mark threshold. -/
def Quota.threshold (q : Quota) : Nat := q.lastGrant * q.lowMark / 1000

/-- The low-notified flag set. -/
def markNotified (k : Nat) (s : State) : State :=
  modContext k (fun x => { x with quota := { x.quota with lowNotified := true } }) s

/-- After a debit that took the balance from `before` to that of `q`: exhaustion, or the low mark (R162). -/
def notifyQuota (k before : Nat) (q : Quota) (s : State) : State :=
  if 0 < before ∧ q.balance = 0 then markNotified k (joinAttention k .empty s)
  else if q.lowNotified = false ∧ q.balance ≤ q.threshold then markNotified k (joinAttention k .low s)
  else s

/-- A debit of `d` µc from a context's quota (R161): nothing for an unlimited one; else the balance falls or is exhausted with
overrun and the QUOTA restriction, and R162 follows. -/
def debit (k d : Nat) (s : State) : State :=
  match s.context k with
  | none => s
  | some x =>
    if x.quota.unlimited then s
    else
      let q := x.quota.debited d
      let s1 := setContext k { x with quota := q } s
      let s2 := if d < x.quota.balance then s1 else restrict k (fun r => { r with quota := true }) s1
      notifyQuota k x.quota.balance q s2

/-! ### The rating key (R153) -/

/-- The rating key of a home group's usage under an epoch. -/
def State.keyUnder (s : State) (group : Nat) (x : Epoch) : Key :=
  let entry :=
    match s.rge.generations.find? (fun g => g.number == x.partnerGen) with
    | none => PartnerEntry.none
    | some g => g.entry x.zone group
  let covered := entry.mode != .forbidden
  { zone := x.zone
    partner := if covered then some entry.partner else none
    tariff := if covered then entry.tariff else 0
    generation := x.tariffGen
    linkClass := x.linkClass }

/-- The tariff values of a key, from the held generation it names. -/
def State.tariffValues (s : State) (key : Key) : TariffValues :=
  let table :=
    match s.rte.generations.find? (fun g => g.number == key.generation) with
    | none => TariffTable.default
    | some g => g.values
  let tariff := (table.tariffs.toList[key.tariff]?).getD ⟨0, 1024, 0⟩
  { price := tariff.price
    block := tariff.block
    fee := tariff.fee
    multiplier := (table.multipliers.toList[classNumber key.linkClass]?).getD 1000 }

/-- The reason that the first differing field of two keys gives (R153). -/
def Key.difference (a b : Key) : CloseReason :=
  if a.zone ≠ b.zone then .zone
  else if a.partner ≠ b.partner then .partner
  else if a.tariff ≠ b.tariff ∨ a.generation ≠ b.generation then .tariff
  else .linkClass

/-! ### The ticket queue (R168–R170) -/

/-- A ship time as a ticket gives it: UTC seconds through the base, or seconds since reset; kept within 0 to 2^32 − 1. -/
def ticketTime (base : Option UtcBase) (t : Nat) : Nat :=
  match base with
  | none => min max32 (t / 1000)
  | some b => min max32 ((b.second : Int) + ((t : Int) - (b.shipTime : Int)) / 1000).toNat

/-- The number of contexts with an open accumulator. -/
def State.openCount (s : State) : Nat := (s.sbt.contexts.filter (fun e => e.2.accumulator.isSome)).length

/-- The gate count (R170). -/
def State.gateCount (s : State) : Nat := s.tkq.tickets.length + s.openCount

/-- Whether the gate admits (R170). -/
def State.gateAdmits (s : State) : Bool := decide (s.gateCount < 2048)

/-- The ticket of a settled record (R168). -/
def ticketOf (k : Nat) (x : Context) (a : Accumulator) (reason : CloseReason) (s : State) : Ticket where
  seq := s.tkq.nextSeq
  ctx := k
  sid := x.sid
  key := a.key
  firstEpoch := a.firstEpoch
  lastEpoch := a.lastEpoch
  startTime := ticketTime s.ctp.utc a.start
  endTime := ticketTime s.ctp.utc s.shipTime
  up := a.up
  down := a.down
  blocks := a.blocks
  charge := a.charge
  feeApplied := a.feeApplied
  reason := reason
  late := a.late
  saturated := a.saturated
  timeUnset := s.ctp.utc.isNone
  balance := x.quota.balance
  overrun := if x.quota.overrun = 0 then none else some x.quota.overrun

/-- A ticket appended at the tail; the sequence number moves on, and TICKET_WATERMARK is set when the number queued reaches
the watermark (R169, R177). -/
def appendTicket (t : Ticket) (s : State) : State :=
  let s1 :=
    { s with tkq := { s.tkq with tickets := s.tkq.tickets ++ [t], nextSeq := (s.tkq.nextSeq + 1) % 4294967296 } }
  if s1.tkq.tickets.length = s.settings.watermark then setCond .ticketWatermark s1 else s1

/-! ### Closing (R159) -/

/-- Whether a record has a fraction to settle. -/
def Accumulator.unsettled (a : Accumulator) : Bool := a.resBytes != 0 || a.resThousandths != 0

/-- The settlement's amount, rounded up (R159). -/
def Accumulator.settlement (a : Accumulator) : Nat :=
  if a.resBytes ≠ 0 then (a.values.price * a.values.multiplier + a.resThousandths + 999) / 1000
  else (a.resThousandths + 999) / 1000

/-- A record after its settlement: the part block counted, the charge raised, the residuals 0 (R159). -/
def Accumulator.settled (a : Accumulator) : Accumulator :=
  if a.unsettled then
    let blocks := if a.resBytes ≠ 0 then a.blocks + 1 else a.blocks
    let charge := a.charge + a.settlement
    { a with
      blocks := min maxBytes blocks
      charge := min maxMoney charge
      resBytes := 0
      resThousandths := 0
      saturated := a.saturated || decide (maxBytes < blocks) || decide (maxMoney < charge) }
  else a

/-- A record settled, its quota debited, and its ticket appended (R159 steps 1 and 2). -/
def handOver (k : Nat) (a : Accumulator) (reason : CloseReason) (s : State) : State :=
  let s1 := if a.unsettled then debit k a.settlement s else s
  match s1.context k with
  | none => s1
  | some x => appendTicket (ticketOf k x a.settled reason s1) s1

/-- An open accumulator closed with a reason; nothing where it is empty (R159). -/
def closeAccumulator (k : Nat) (reason : CloseReason) (s : State) : State :=
  match (s.context k).bind Context.accumulator with
  | none => s
  | some a => modContext k (fun x => { x with accumulator := none }) (handOver k a reason s)

/-! ### Rating one entry (R154, R156–R158, R160, R171) -/

/-- A record as an opening forms it (R154). -/
def Accumulator.opened (key : Key) (values : TariffValues) (epoch now : Nat) (late : Bool) : Accumulator where
  key := key
  values := values
  start := now
  firstEpoch := epoch
  lastEpoch := epoch
  up := 0
  down := 0
  blocks := 0
  charge := 0
  resBytes := 0
  resThousandths := 0
  feeApplied := false
  late := late
  saturated := false

/-- The whole blocks that an entry completes with the residual (R157 steps 1 and 2). -/
def Accumulator.newBlocks (a : Accumulator) (up down : Nat) : Nat := (a.resBytes + (up + down)) / a.values.block

/-- The thousandths of a micro-credit that an entry comes to, with the residual (R157 step 3). -/
def Accumulator.thousandths (a : Accumulator) (up down : Nat) : Nat :=
  a.newBlocks up down * a.values.price * a.values.multiplier + a.resThousandths

/-- The charge of an entry with `fee` added (R157 steps 4 and 5). -/
def Accumulator.entryCharge (a : Accumulator) (up down fee : Nat) : Nat := a.thousandths up down / 1000 + fee

/-- A record after an entry has been priced into it (R157 steps 1 to 6). -/
def Accumulator.priced (a : Accumulator) (up down fee : Nat) : Accumulator :=
  let u := a.up + up
  let w := a.down + down
  let n := a.blocks + a.newBlocks up down
  let c := a.charge + a.entryCharge up down fee
  { a with
    up := min maxBytes u
    down := min maxBytes w
    blocks := min maxBytes n
    charge := min maxMoney c
    resBytes := a.resBytes + (up + down) - a.newBlocks up down * a.values.block
    resThousandths := a.thousandths up down % 1000
    saturated := a.saturated || decide (maxBytes < u) || decide (maxBytes < w) || decide (maxBytes < n)
      || decide (maxMoney < c) }

/-- The entry fee an entry calls for, 0 where R158 calls for none. -/
def feeDue (x : Context) (a : Accumulator) (up down : Nat) : Nat :=
  if 0 < a.values.fee ∧ 0 < up + down ∧ x.feeZone ≠ some a.key.zone ∧ a.feeApplied = false then a.values.fee else 0

/-- The epoch fields and the LATE flag after an entry rated under an epoch (R156). -/
def State.markEpoch (s : State) (a : Accumulator) (epoch : Nat) (late : Bool) : Accumulator :=
  { a with
    lastEpoch := if s.epochAge a.lastEpoch < s.epochAge epoch then epoch else a.lastEpoch
    firstEpoch := if s.epochAge epoch < s.epochAge a.firstEpoch then epoch else a.firstEpoch
    late := a.late || late }

/-- An entry rated into a context's open accumulator, with its fee, and debited (R156, R157, R158). -/
def rateInto (k up down epoch : Nat) (late : Bool) (s : State) : State :=
  match s.context k with
  | none => s
  | some x =>
    match x.accumulator with
    | none => s
    | some a =>
      let fee := feeDue x a up down
      let b := (s.markEpoch a epoch late).priced up down fee
      let b := if fee = 0 then b else { b with feeApplied := true }
      let zone := if fee = 0 then x.feeZone else some a.key.zone
      debit k (a.entryCharge up down fee) (setContext k { x with accumulator := some b, feeZone := zone } s)

/-- An entry held for want of ticket space (R171). -/
def holdUsage (k up down epoch : Nat) (s : State) : State :=
  let s1 := modContext k (fun x => { x with held := some ⟨up, down, epoch⟩ }) s
  let s2 :=
    { s1 with
      tkq := { s1.tkq with holdList := s1.tkq.holdList ++ [k], refusals := satAdd max16 s1.tkq.refusals 1 } }
  setCond .ticketBacklog (restrict k (fun r => { r with backlog := true }) s2)

/-- An entry rated alone into a standalone LATE ticket: no fee, settled at once (R160). -/
def lateTicket (k up down : Nat) (key : Key) (epoch : Nat) (s : State) : State :=
  let a := Accumulator.opened key (s.tariffValues key) epoch s.shipTime true
  handOver k (a.priced up down 0) .late (debit k (a.entryCharge up down 0) s)

/-- An entry for an empty accumulator: opened and rated where the gate admits or room has been found, else held (R156). -/
def openOrHold (k up down tag : Nat) (key : Key) (epoch : Nat) (late room : Bool) (s : State) : State :=
  if room || s.gateAdmits then
    rateInto k up down epoch late
      (modContext k
        (fun x => { x with accumulator := some (Accumulator.opened key (s.tariffValues key) epoch s.shipTime late) }) s)
  else holdUsage k up down tag s

/-- The epoch an entry is rated under and whether it is LATE: the epoch its tag names if held, else the oldest held (R149). -/
def State.epochFor (s : State) (tag : Nat) : Epoch × Bool :=
  match s.heldEpoch tag with
  | some e => (e, false)
  | none => (s.oldestEpoch, true)

/-- The LATE entry count raised, saturating (R155, R166). -/
def countLate (late : Bool) (s : State) : State :=
  if late then { s with rte := { s.rte with lateEntries := satAdd max32 s.rte.lateEntries 1 } } else s

/-- One entry rated from step 3 of R155 on; `room` says that room at the gate has already been found (R165). -/
def rateEntry (k up down tag : Nat) (room : Bool) (s : State) : State :=
  match s.context k with
  | none => s
  | some x =>
    let e := (s.epochFor tag).1
    let late := (s.epochFor tag).2
    let s1 := countLate late s
    let key := s.keyUnder x.homeGroup e
    match x.accumulator with
    | none => openOrHold k up down tag key e.number late room s1
    | some a =>
      if a.key = key then rateInto k up down e.number late s1
      else if s.epochAge e.number < s.epochAge a.lastEpoch then
        if room || s1.gateAdmits then lateTicket k up down key e.number s1 else holdUsage k up down tag s1
      else openOrHold k up down tag key e.number late room (closeAccumulator k (a.key.difference key) s1)

end Sys2Proof.Machine
end

