-- ==== Sys2Proof/Machine/Leaving.lean ====
section
/-! DEFINITION. The shared operations that end a context's use: cancelling a registration, releasing, freeing, completing the
counts of waters without service, and orphaning (sections 6.4 to 6.6, R132). -/

namespace Sys2Proof.Machine

/-- The outstanding entry of a context that is not abandoned, if there is one (R121). -/
def State.sentEntry (s : State) (k : Nat) : Option Outstanding :=
  s.rge.outstanding.find? (fun o => o.ctx == k && !o.abandoned)

/-- A context's registration field set. -/
def setRegistration (k : Nat) (r : Registration) (s : State) : State :=
  modContext k (fun x => { x with registration := r }) s

/-- Cancellation of a registration: out of the queue, or its outstanding entry abandoned; then NONE (R132). -/
def cancelRegistration (k : Nat) (s : State) : State :=
  match (s.context k).map Context.registration with
  | some (.queued _ _) =>
    setRegistration k .none { s with rge := { s.rge with queue := s.rge.queue.filter (· != k) } }
  | some (.sent _ _) =>
    setRegistration k .none
      { s with
        rge :=
          { s.rge with
            outstanding := s.rge.outstanding.map
              (fun o => if o.ctx == k && !o.abandoned then { o with abandoned := true } else o) } }
  | _ => s

/-- Freeing a context: its cell's attached count falls, it leaves the attention list, and it holds nothing (R97, R108). -/
def freeContext (k : Nat) (s : State) : State :=
  match s.context k with
  | none => s
  | some x =>
    let s1 := modCell x.cell (fun c => { c with attached := c.attached - 1 }) s
    let s2 := leaveAttention k s1
    { s2 with sbt := { s2.sbt with contexts := Assoc.erase s2.sbt.contexts k } }

/-- The close reason of a leave reason. -/
def LeaveReason.close : LeaveReason → CloseReason
  | .detach => .detach
  | .cellLost => .cellLost
  | .host => .host
  | .serviceOff => .serviceOff

/-- Whether a context has held usage. -/
def State.holds (s : State) (k : Nat) : Bool := ((s.context k).bind Context.held).isSome

/-- Release of an ATTACHING or ACTIVE context with a reason (R107). -/
def releaseContext (k : Nat) (reason : LeaveReason) (s : State) : State :=
  let s1 := closeAccumulator k reason.close (cancelRegistration k s)
  if s1.holds k then
    modContext k (fun x => { x with state := .leaving, orphan := none, leaving := some ⟨reason, true⟩ }) s1
  else freeContext k s1

/-- The counts of a context left at waters without service are complete: it is closed and freed, or waits for its held
usage (R114). -/
def completeCounts (k : Nat) (s : State) : State :=
  if s.holds k then modContext k (fun x => { x with leaving := some ⟨.serviceOff, true⟩ }) s
  else freeContext k (closeAccumulator k .serviceOff s)

/-- Whether a context is LEAVING with SERVICE_OFF and counts not complete. -/
def Context.awaitsCounts (x : Context) : Bool := x.state == .leaving && x.leaving == some ⟨.serviceOff, false⟩

/-- R114 for the contexts naming a cell that has reached SILENT, in rising index order (assumption 44). -/
def cellCountsComplete (c : CellId) (s : State) : State :=
  forEach s.contextIndices
    (fun k t =>
      match t.context k with
      | none => t
      | some x => if x.cell == c && x.awaitsCounts then completeCounts k t else t) s

/-- A context of a cell that is lost, disabled or whose unit has restarted (R111): an orphan with a grace deadline, or, when
LEAVING for want of service, its counts complete. -/
def orphanContext (k : Nat) (s : State) : State :=
  match s.context k with
  | none => s
  | some x =>
    if x.state == .leaving then (if x.awaitsCounts then completeCounts k s else s)
    else
      match x.orphan with
      | some _ => s
      | none => setContext k { x with orphan := some (s.deadline s.settings.graceTime) } s

/-- R111 for every context whose serving cell is the one given, in rising index order (assumption 44). -/
def orphanCell (c : CellId) (s : State) : State :=
  forEach s.contextIndices
    (fun k t => if (t.context k).map Context.cell == some c then orphanContext k t else t) s

end Sys2Proof.Machine
end

