-- ==== Sys2Proof/Machine/Port.lean ====
section
/-! DEFINITION. The control port's frames and queues (R181, R182, R183, R185): the receiver, the arrival of a request, the taking of
the waiting request nearest the head and its reply, the bytes clocked out, and the meanings of CONTROL_FRAME, GAP_TIMEOUT,
LENGTH_DISCARD, CONTROL_FRAME_SENT and NOTICE. -/

namespace Sys2Proof.Machine

/-! ### Discards (R181) -/

/-- The cause counts with one raised by 1, saturating (R181). -/
def Ctp.countCause (c : PortCause) (p : Ctp) : Ctp :=
  match c with
  | .gap => { p with gapCount := satAdd max16 p.gapCount 1 }
  | .length => { p with lengthCount := satAdd max16 p.lengthCount 1 }
  | .crc => { p with crcCount := satAdd max16 p.crcCount 1 }
  | .kind => { p with kindCount := satAdd max16 p.kindCount 1 }
  | .overrun => { p with overrunCount := satAdd max16 p.overrunCount 1 }

/-- The receiver put into a state. -/
def setReceiver (r : Receiver) (s : State) : State := { s with ctp := { s.ctp with receiver := r } }

/-- A frame discarded for a cause: the receiver hunts, the cause is counted and PORT_ERROR is set (R181). -/
def portError (c : PortCause) (s : State) : State :=
  setCond .portError { s with ctp := { s.ctp.countCause c with receiver := .hunting } }

/-! ### Queues (R182) -/

/-- The number of frames of the shared kinds, notices and BUSY replies, in the outbound queue. -/
def State.sharedFrames (s : State) : Nat := (s.ctp.outbound.filter (fun f => f.kind != .reply)).length

/-- A frame appended to the outbound queue. -/
def appendOut (f : OutFrame) (s : State) : State := { s with ctp := { s.ctp with outbound := s.ctp.outbound ++ [f] } }

/-- The arrival of a request: queued as waiting, or answered BUSY, or discarded with cause OVERRUN (R182). -/
def arrive (tag code : Nat) (body : List Byte) (s : State) : State :=
  if s.ctp.inbound.length < 4 then
    { s with ctp := { s.ctp with inbound := s.ctp.inbound ++ [⟨tag, code, body, false⟩] } }
  else if s.sharedFrames < 12 then appendOut ⟨.busy, tag, Status.busy.number, []⟩ s
  else portError .overrun s

/-- The waiting entry nearest the head. -/
def State.firstWaiting (s : State) : Option InEntry := s.ctp.inbound.find? (fun e => !e.answered)

/-- A queue with its waiting entry nearest the head answered. -/
def markAnswered : List InEntry → List InEntry
  | [] => []
  | e :: t => if e.answered then e :: markAnswered t else { e with answered := true } :: t

/-- A reply appended, and the entry it answers marked (R182). -/
def appendReply (tag : Nat) (status : Status) (body : List Byte) (s : State) : State :=
  appendOut ⟨.reply, tag, status.number, body⟩ { s with ctp := { s.ctp with inbound := markAnswered s.ctp.inbound } }

/-! ### Taking a request (R183) -/

/-- What an owner's rule makes of a request: the state, and the status and body of the reply. -/
structure Answer where
  state : State
  status : Status
  body : List Byte
  deriving DecidableEq, Repr

/-- An answer without a body. -/
def answer (status : Status) (s : State) : Answer := ⟨s, status, []⟩

/-- The waiting entry nearest the head taken, its owner's rule being `act`: LOCKED, BAD_ARG, or the owner's answer (R183). -/
def takeRequest (e : InEntry) (act : State → Answer) (s : State) : State :=
  if isProtected e.code && s.ctp.locked then appendReply e.tag .locked [] s
  else if bodyFits e.code e.body then
    appendReply e.tag (act s).status (act s).body (act s).state
  else appendReply e.tag .badArg [] s

/-- Waiting entries nearest the head that no owner's rule takes, because the code names no request or the body does not fit,
answered one after the other (R183 checks 1 to 3), at most `n` of them. -/
def answerMalformed : Nat → State → State
  | 0, s => s
  | n + 1, s =>
    if s.restarting then s
    else
      match s.firstWaiting with
      | none => s
      | some e => if bodyFits e.code e.body then s else answerMalformed n (takeRequest e (answer .badArg) s)

/-- Every such entry answered; the queue holds at most 4. -/
def answerUnowned (s : State) : State := answerMalformed s.ctp.inbound.length s

/-- A request row. Where the waiting entry nearest the head is this request, it is taken; where none waits and no restart runs,
the request arrives and is taken if it was queued; else it only arrives, or, where it waits nearest the head during a
restart, goes on waiting (assumptions 1, 30). -/
def request (tag code : Nat) (body : List Byte) (act : State → Answer) (s : State) : State :=
  let e : InEntry := ⟨tag % 256, code, body, false⟩
  match s.firstWaiting with
  | some w =>
    if w = e then (if s.restarting then s else answerUnowned (takeRequest e act s))
    else arrive (tag % 256) code body s
  | none =>
    if s.restarting || decide (4 ≤ s.ctp.inbound.length) then arrive (tag % 256) code body s
    else takeRequest e act (arrive (tag % 256) code body s)

/-! ### The receiver (R181) -/

/-- The body length in the first two bytes after the start byte. -/
def frameLength (taken : List Byte) : Nat := beNat (taken.take 2)

/-- A frame received whole, from its body length to its CRC: CRC and kind checked, and a good request arrives (R181). -/
def frameComplete (taken : List Byte) (s : State) : State :=
  let covered := taken.take (taken.length - 2)
  if beNat (taken.drop (taken.length - 2)) ≠ (crc16 covered).toNat then portError .crc s
  else
    match covered with
    | _ :: _ :: kind :: tag :: code :: body =>
      if kind = 1#8 then arrive tag.toNat code.toNat body (setReceiver .hunting s) else portError .kind s
    | _ => setReceiver .hunting s

/-- One byte while the receiver hunts. -/
def huntByte (b : Byte) (s : State) : State := if b = 0xC3#8 then setReceiver (.inside [] s.shipTime) s else s

/-- One byte into the receiver (R181). -/
def receiveByte (s : State) (b : Byte) : State :=
  match s.ctp.receiver with
  | .hunting => huntByte b s
  | .inside taken since =>
    if since + 50 < s.shipTime then huntByte b (portError .gap s)
    else
      let now := taken ++ [b]
      if now.length < 2 then setReceiver (.inside now s.shipTime) s
      else if 1024 < frameLength now then portError .length s
      else if now.length < frameLength now + 7 then setReceiver (.inside now s.shipTime) s
      else frameComplete now s

/-! ### Bytes going out (R182) -/

/-- The byte that CP_DO gives next: the next of the frame at the head of the outbound queue, or the fill byte 0x00 (R182). -/
def State.nextByte (s : State) : Byte :=
  match s.ctp.outbound with
  | [] => 0x00#8
  | f :: _ => f.bytes.getD s.ctp.sent 0x00#8

/-- Bytes on CP_DO. -/
def emitBytes (bytes : List Byte) (s : State) : State := { s with ports := { s.ports with control := s.ports.control ++ bytes } }

/-- The frame at the head of the outbound queue leaves, its last byte gone, and, for a queued request's reply, so does the
answered entry (R182). -/
def headLeaves (s : State) : State :=
  match s.ctp.outbound with
  | [] => s
  | f :: rest =>
    { s with
      ctp :=
        { s.ctp with
          outbound := rest
          sent := 0
          inbound := if f.kind = .reply then s.ctp.inbound.eraseP InEntry.answered else s.ctp.inbound } }

/-- One byte clocked out: it is given on CP_DO, and the send position moves on, or the frame leaves with its last byte (R182). -/
def clockOut (s : State) : State :=
  let t := emitBytes [s.nextByte] s
  match s.ctp.outbound with
  | [] => t
  | f :: _ =>
    if s.ctp.sent + 1 < f.bytes.length then { t with ctp := { t.ctp with sent := s.ctp.sent + 1 } } else headLeaves t

/-- One byte clocked in, which clocks one out (section 11.1): the byte out is the next as the queue stood before, and the byte in
then passes through the receiver (R181, R182, assumption 7). -/
def clockByte (s : State) (b : Byte) : State := answerUnowned (receiveByte (clockOut s) b)

/-- CONTROL_FRAME: bytes are clocked in on the control port (R181, R182). -/
def execControlFrame (bytes : List Byte) (s : State) : Host.Outcome State Fault Refusal := done (bytes.foldl clockByte s)

/-- GAP_TIMEOUT: more than 50 ms pass inside a frame, which is discarded with cause GAP (R181, assumption 6). -/
def execGapTimeout (s : State) : Host.Outcome State Fault Refusal :=
  done
    (portError .gap
      (match s.ctp.receiver with
      | .hunting => s
      | .inside _ since => reachDeadline (since + 51) s))

/-- LENGTH_DISCARD: a body length above 1,024 has been received, and the frame is discarded (R181, assumption 6). -/
def execLengthDiscard (s : State) : Host.Outcome State Fault Refusal := done (portError .length s)

/-! ### Frames going out (R182, R185) -/

/-- CONTROL_FRAME_SENT: the bytes of the frame at the head of the outbound queue that have not gone are clocked out, from the send
position to the last, and the frame leaves the queue (R182, assumption 7). -/
def execControlFrameSent (s : State) : Host.Outcome State Fault Refusal :=
  done
    (match s.ctp.outbound with
    | [] => s
    | f :: _ => headLeaves (emitBytes (f.bytes.drop s.ctp.sent) s))

/-- The body of a CONDITIONS notice: the set and enabled conditions, and the ship time (section 12.2). -/
def State.noticeBody (s : State) : List Byte :=
  be 2 (s.ctp.conditions &&& s.ctp.mask).toNat ++ be 8 s.shipTime

/-- NOTICE: a pending notice is built while a shared slot is free (R185). -/
def execNotice (s : State) : Host.Outcome State Fault Refusal :=
  done
    (if s.ctp.noticePending && decide (s.sharedFrames < 12) then
      let t := { s with ctp := { s.ctp with noticePending := false } }
      if s.ctp.conditions &&& s.ctp.mask = 0#16 then t else appendOut ⟨.notice, 0, 1, s.noticeBody⟩ t
    else s)

end Sys2Proof.Machine
end

