-- ==== Sys2Proof/Machine/Activity.lean ====
section
/-! DEFINITION. Cell activity and doze (sections 5.2 and 5.3), the retune dispatch and resume that other chapters also bring about
(R86 step 1, R87), and the meanings of ACTIVITY, IDLE_TIMER_EXPIRY, DEEP_TIMER_EXPIRY and LAMP_SET. -/

namespace Sys2Proof.Machine

/-! ### The idle timer (R81) -/

/-- The seconds a cell's idle timer is loaded with: the idle time, or a quarter of it, whole seconds, on backup power (R81,
assumption 14). -/
def State.idleLoad (s : State) (p : Power) : Nat :=
  match p with
  | .mains => s.settings.idleTime
  | .backup => s.settings.idleTime / 4

/-- A cell's idle timer loaded (R81). -/
def loadIdle (c : CellId) (s : State) : State :=
  modCell c (fun x => { x with idleTimer := some (s.deadline (s.idleLoad x.power)) }) s

/-- A cell's power as a good HEARTBEAT gives it; a change to BACKUP brings a SERVING cell's idle deadline forward (R81). -/
def changePower (c : CellId) (p : Power) (s : State) : State :=
  modCell c
    (fun x =>
      let near := s.deadline (s.settings.idleTime / 4)
      { x with
        power := p
        idleTimer :=
          if x.state = .serving ∧ x.power = .mains ∧ p = .backup then x.idleTimer.map (min near) else x.idleTimer }) s

/-! ### Wake and doze (R80, R83) -/

/-- A wake of a cell in DOZE or DEEP: WAKE, SERVING, deep timer stopped, idle timer loaded, and the CAP's entry (R80). -/
def wakeCell (c : CellId) (s : State) : State :=
  enterServing
    (loadIdle c (modCell c (fun x => { x with state := .serving, deepTimer := none }) (sendDeck c .wake s)))

/-- Whether a cell is in DOZE or DEEP. -/
def CellState.dozing : CellState → Bool
  | .doze | .deep => true
  | _ => false

/-- Every dozing cell woken, each its own entry to SERVING (R84). The rising cell order is the model's (DESIGN CHOICE,
assumption 41). -/
def wakeAll (s : State) : State :=
  forEach (allCells.filter (fun c => (s.cell c).state.dozing)) wakeCell s

/-- DOZE entry from SERVING: DOZE(LIGHT), idle timer stopped, deep timer loaded, and the CAP's leaving (R83). -/
def dozeCell (c : CellId) (s : State) : State :=
  leaveServing c
    (modCell c
      (fun x => { x with state := .doze, idleTimer := none, deepTimer := some (s.deadline s.settings.deepTime) })
      (sendDeck c .dozeLight s))

/-! ### Events (R78, R79) -/

/-- One event taken by its class and the cell's state (R79). -/
def takeEvent (c : CellId) (cls : EventClass) (deepWake : Bool) (s : State) : State :=
  match cls, (s.cell c).state with
  | .primary, .serving => loadIdle c s
  | .primary, .doze => wakeCell c s
  | .primary, .deep => if deepWake then wakeCell c s else s
  | .secondary, .doze => modCell c (fun x => { x with deepTimer := some (s.deadline s.settings.deepTime) }) s
  | _, _ => s

/-- One listed event kind taken through the event class table (R78); the kind has passed its encoding check. -/
def takeKind (c : CellId) (kind : Nat) (s : State) : State :=
  match s.settings.events.toList[kind]? with
  | none => s
  | some e => takeEvent c e.cls e.deepWake s

/-- An ACTIVITY frame at a cell (R60, R79). -/
def takeActivity (c : CellId) (kinds : List Nat) (s : State) : State :=
  match (s.cell c).state with
  | .absent | .lost | .disabled => countBad c s
  | .silencing | .silent => s
  | .serving | .doze | .deep | .retuning => forEach kinds (takeKind c) s

/-- ACTIVITY: a frame that fails its encoding checks is counted, else the cell takes its events (R59, R60, R79). -/
def execActivity (unit : Nat) (kinds : List Nat) (s : State) : Host.Outcome State Fault Refusal :=
  done
    (match cellAt unit with
    | none => s
    | some c => if activityValid kinds then takeActivity c kinds s else countBad c s)

/-- IDLE_TIMER_EXPIRY: the cell dozes if doze is on and enough cells stay awake, else its idle timer is reloaded (R82). -/
def execIdleTimerExpiry (cell : Nat) (s : State) : Host.Outcome State Fault Refusal :=
  done
    (match cellAt cell with
    | none => s
    | some c =>
      atExpiry (s.cell c).idleTimer
        (fun t =>
          if t.settings.doze && decide (t.settings.minAwake ≤ t.serving.length - 1) then dozeCell c t else loadIdle c t)
        s)

/-- DEEP_TIMER_EXPIRY: the DOZE cell enters DEEP and is sent DOZE(DEEP) (R83). -/
def execDeepTimerExpiry (cell : Nat) (s : State) : Host.Outcome State Fault Refusal :=
  done
    (match cellAt cell with
    | none => s
    | some c =>
      atExpiry (s.cell c).deepTimer
        (fun t => modCell c (fun x => { x with state := .deep, deepTimer := none }) (sendDeck c .dozeDeep t)) s)

/-! ### Dispatch from the retune list, and resume (R86 step 1, R87) -/

/-- The number of cells in RETUNING. -/
def State.retuningCount (s : State) : Nat := (allCells.filter (fun c => (s.cell c).state == .retuning)).length

/-- The retune list replaced. -/
def setRetuneList (cells : List CellId) (s : State) : State := { s with duc := { s.duc with retuneList := cells } }

/-- A cell off the retune list. -/
def leaveRetuneList (c : CellId) (s : State) : State := setRetuneList (s.duc.retuneList.filter (· != c)) s

/-- A cell dispatched: RETUNE with the current zone's identity, which becomes its target, RETUNING, idle and deep timers
stopped, retune timer at 10 s, and the CAP's leaving if it was SERVING (R87). -/
def dispatchCell (c : CellId) (s : State) : State :=
  let beacon := s.zone.beacon
  let t :=
    modCell c
      (fun x =>
        { x with
          state := .retuning
          target := beacon
          idleTimer := none
          deepTimer := none
          retuneTimer := some (s.deadline 10) })
      (sendDeck c (.retune beacon s.newestEpoch.number) (leaveRetuneList c s))
  if (s.cell c).state = .serving then leaveServing c t else t

/-- At most `n` cells dispatched from the head of the list while fewer than `limit` cells are in RETUNING (R87). -/
def dispatchWhile (limit : Nat) : Nat → State → State
  | 0, s => s
  | n + 1, s =>
    match s.duc.retuneList with
    | [] => s
    | c :: _ => if s.retuningCount < limit then dispatchWhile limit n (dispatchCell c s) else s

/-- Dispatch while fewer than `limit` cells are in RETUNING. -/
def dispatchUpTo (limit : Nat) (s : State) : State := dispatchWhile limit s.duc.retuneList.length s

/-- R87's dispatch: up to the retune window. -/
def dispatch (s : State) : State := dispatchUpTo s.settings.retuneWindow s

/-- A SILENT cell resumed under an identity: RESUME with it and the newest epoch, SERVING, idle timer loaded, and the CAP's
entry (R86 step 1). -/
def resumeCell (beacon : Option Beacon) (c : CellId) (s : State) : State :=
  enterServing
    (loadIdle c
      (modCell c (fun x => { x with state := .serving, beacon := beacon })
        (sendDeck c (.resume beacon s.newestEpoch.number) s)))

/-! ### The lamp (R94) -/

/-- The lamp mode that a pattern byte names: some forced pattern, or AUTO (section 12.2). -/
def lampMode (pattern : Nat) : Option (Option Pattern) :=
  match pattern with
  | 0 => some (some .off)
  | 1 => some (some .slow)
  | 2 => some (some .fast)
  | 3 => some (some .steady)
  | 4 => some none
  | _ => none

/-- The lamp put into a mode: a forced pattern starts at the beginning of its lit part; automatic follows at the end of the
command (R94). -/
def setLamp (mode : Option Pattern) (s : State) : State :=
  match mode with
  | some p => { s with duc := { s.duc with lamp := ⟨some p, p, s.shipTime⟩ } }
  | none => { s with duc := { s.duc with lamp := { s.duc.lamp with forced := none } } }

/-- LAMP_SET's rule (R94). -/
def lampSet (pattern : Nat) (s : State) : Answer :=
  match lampMode pattern with
  | none => answer .badArg s
  | some mode => answer .ok (setLamp mode s)

/-- LAMP_SET (R94). -/
def execLampSet (tag pattern : Nat) (s : State) : Host.Outcome State Fault Refusal :=
  done (request tag 0x23 (be 1 pattern) (lampSet pattern) s)

end Sys2Proof.Machine
end

