-- ==== Sys2Proof/Machine/Epochs.lean ====
section
/-! DEFINITION. The Epoch Controller (08_rating_epochs.md): opening, cutting, retirement and the boundary sweep, and the meanings
of EPOCH_OPEN, USAGE_END and CUT_TIMER_EXPIRY. -/

namespace Sys2Proof.Machine

/-- The ring replaced. -/
def setRing (ring : List Epoch) (s : State) : State := { s with epc := { s.epc with ring := ring } }

/-! ### Retirement and the boundary sweep -/

/-- One accumulator at a boundary sweep: untouched while its last epoch is held; else moved to the newest epoch, or closed
with the reason of the first field in which the newest key differs (R148). -/
def sweepContext (k : Nat) (s : State) : State :=
  match s.context k with
  | none => s
  | some x =>
    match x.accumulator with
    | none => s
    | some a =>
      if (s.heldEpoch a.lastEpoch).isSome then s
      else
        let key := s.keyUnder x.homeGroup s.newestEpoch
        if a.key = key then
          setContext k { x with accumulator := some { a with lastEpoch := s.newestEpoch.number } } s
        else closeAccumulator k (a.key.difference key) s

/-- The boundary sweep (R148). -/
def boundarySweep (s : State) : State := forEach s.contextIndices sweepContext s

/-- A list of generations without those that are neither the newest, which is the last, nor named (R139). -/
def keepNamed {α : Type} (number : α → Nat) (named : List Nat) (gens : List α) : List α :=
  match gens.getLast? with
  | none => gens
  | some newest => gens.filter (fun g => number g == number newest || named.contains (number g))

/-- Generations that no held epoch names, other than the newest, are released (R139). -/
def releaseGenerations (s : State) : State :=
  { s with
    rge :=
      { s.rge with
        generations := keepNamed PartnerGen.number (s.epc.ring.map Epoch.partnerGen) s.rge.generations }
    rte :=
      { s.rte with
        generations := keepNamed TariffGen.number (s.epc.ring.map Epoch.tariffGen) s.rte.generations } }

/-- Why an epoch retires (R146, R147). -/
inductive RetireReason where
  | complete | timeout | forced
  deriving DecidableEq, Repr

/-- A retirement counted for its reason, saturating (R146). -/
def countRetired (r : RetireReason) (s : State) : State :=
  match r with
  | .complete => { s with epc := { s.epc with retiredComplete := satAdd max16 s.epc.retiredComplete 1 } }
  | .timeout => { s with epc := { s.epc with retiredTimeout := satAdd max16 s.epc.retiredTimeout 1 } }
  | .forced => { s with epc := { s.epc with retiredForced := satAdd max16 s.epc.retiredForced 1 } }

/-- Retirement of the oldest epoch of a ring of two or more (R146 steps 1 to 4). -/
def retireOldest (r : RetireReason) (s : State) : State :=
  match s.epc.ring with
  | _ :: f :: rest =>
    countRetired r (releaseGenerations (boundarySweep (setRing ({ f with cut := .none } :: rest) s)))
  | _ => s

/-- The retirement check over at most `n` epochs (R146). -/
def retireWhile : Nat → State → State
  | 0, s => s
  | n + 1, s =>
    match s.epc.ring with
    | _ :: f :: _ =>
      match f.cut with
      | .complete => retireWhile n (retireOldest .complete s)
      | .timedOut => retireWhile n (retireOldest .timeout s)
      | _ => s
    | _ => s

/-- The retirement check (R146). -/
def retirementCheck (s : State) : State := retireWhile s.epc.ring.length s

/-- The oldest of a full ring retired by force (R147). -/
def forceOldest (s : State) : State :=
  match s.epc.ring with
  | e :: f :: rest =>
    retirementCheck
      (retireOldest .forced
        (setCond .epochTimeout (setRing (e :: { f with pendingSet := [], cutTimer := none } :: rest) s)))
  | _ => s

/-! ### Pending sets -/

/-- An epoch with a cell struck from its pending set; a waiting epoch whose set that empties is COMPLETE (R143, R144). -/
def Epoch.strike (c : CellId) (e : Epoch) : Epoch :=
  if e.pendingSet.contains c then
    let rest := e.pendingSet.filter (· != c)
    if rest.isEmpty && e.cut == .waiting then { e with pendingSet := rest, cut := .complete, cutTimer := none }
    else { e with pendingSet := rest }
  else e

/-- A cell struck from every pending set, and the retirement check made once (R144). -/
def strikeCell (c : CellId) (s : State) : State :=
  retirementCheck (setRing (s.epc.ring.map (Epoch.strike c)) s)

/-! ### Opening -/

/-- Whether a cell in a state owes the end of the epoch before a new one (R141). -/
def CellState.pends : CellState → Bool
  | .serving | .doze | .deep | .retuning | .silencing => true
  | .absent | .silent | .lost | .disabled => false

/-- The cells that a new epoch waits for (R141). -/
def State.pendingCells (s : State) : List CellId := allCells.filter (fun c => (s.cell c).state.pends)

/-- The epoch an opening appends (R141 step 2); its timer and cut state as step 4 leaves them. -/
def State.nextEpoch (s : State) (reason : OpenReason) : Epoch where
  number := (s.newestEpoch.number + 1) % 256
  reason := reason
  zone := s.pzu.current
  linkClass := s.lkm.classHanded
  tariffGen := s.newestTariff.number
  partnerGen := s.newestPartner.number
  opened := s.shipTime
  pendingSet := s.pendingCells
  cut := if s.pendingCells.isEmpty then .complete else .waiting
  cutTimer := if s.pendingCells.isEmpty then none else some (s.deadline s.settings.cutTimeout)

/-- An epoch opened (R141): the oldest of a full ring forced out, the new one appended, CUT sent to its pending cells, and,
where it has none, the retirement check made. -/
def openEpoch (reason : OpenReason) (s : State) : State :=
  let s1 := if 4 ≤ s.epc.ring.length then forceOldest s else s
  let e := s1.nextEpoch reason
  let s2 := setRing (s1.epc.ring ++ [e]) s1
  let s3 := forEach e.pendingSet (fun c => sendDeck c (.cut e.number)) s2
  if e.pendingSet.isEmpty then retirementCheck s3 else s3

/-! ### Meanings -/

/-- EPOCH_OPEN: the EPC takes the oldest delivered event with the given reason and opens an epoch (R140, R141); nothing where
none is delivered (assumptions 2, 16). -/
def execEpochOpen (reason : OpenReason) (s : State) : Host.Outcome State Fault Refusal :=
  done
    (if s.mail.epc.contains reason then
      openEpoch reason { s with mail := { s.mail with epc := s.mail.epc.erase reason } }
    else s)

/-- The ring with a cell struck from the set of the epoch that follows the one with number `m` (R143). -/
def strikeAfter (m : Nat) (c : CellId) : List Epoch → List Epoch
  | e :: f :: rest => if e.number = m then e :: f.strike c :: rest else e :: strikeAfter m c (f :: rest)
  | ring => ring

/-- A USAGE_END passed to the EPC (R143). -/
def takeUsageEnd (m : Nat) (c : CellId) (s : State) : State :=
  retirementCheck (setRing (strikeAfter m c s.epc.ring) s)

/-- An epoch whose cut timer has expired (R145). -/
def Epoch.timeOut (e : Epoch) : Epoch := { e with pendingSet := [], cut := .timedOut, cutTimer := none }

/-- CUT_TIMER_EXPIRY of the epoch with a number: its cells are struck from its set only, it is TIMED_OUT, EPOCH_TIMEOUT is set
and the retirement check made (R145). -/
def execCutTimerExpiry (epoch : Nat) (s : State) : Host.Outcome State Fault Refusal :=
  done
    (match s.heldEpoch epoch with
    | none => s
    | some e =>
      if e.cut = .waiting then
        atExpiry e.cutTimer
          (fun t =>
            retirementCheck
              (setCond .epochTimeout
                (setRing (t.epc.ring.map (fun f => if f.number = epoch then f.timeOut else f)) t))) s
      else s)

end Sys2Proof.Machine
end

