-- ==== Sys2Proof/Machine/Cells.lean ====
section
/-! DEFINITION. The cell table (04_deck_radio_units.md): joining, the heartbeat, loss, disabling and enabling, the restart, and the
meanings of JOIN, HEARTBEAT, HEARTBEAT_TIMER_EXPIRY, DECK_FRAME_INVALID, CELL_DISABLE and CELL_ENABLE. -/

namespace Sys2Proof.Machine

/-! ### Leaving service for good (R69, R71) -/

/-- A cell record in LOST or DISABLED: its timers stopped, its supervision and target dropped (R69 step 1, R85). -/
def Cell.dropped (state : CellState) (x : Cell) : Cell :=
  { x with
    state := state
    heartbeatTimer := none
    idleTimer := none
    deepTimer := none
    retuneTimer := none
    silenceTimer := none
    missed := 0
    good := false
    target := none }

/-- Steps 1 to 5 of R69, the cell entering LOST or DISABLED: retune list and window, the CAP's leaving, the pending sets, and
the contexts naming the cell. -/
def dropCell (state : CellState) (c : CellId) (s : State) : State :=
  let before := (s.cell c).state
  let s1 := leaveRetuneList c (modCell c (Cell.dropped state) s)
  let s2 := if before = .retuning then dispatch s1 else s1
  let s3 := if before = .serving then leaveServing c s2 else s2
  orphanCell c (strikeCell c s3)

/-- The loss of a cell (R69). -/
def loseCell (c : CellId) (s : State) : State := setCond .cellLost (dropCell .lost c s)

/-! ### Joining (R62–R65) -/

/-- Acceptance, step 1: the record reset for a fresh run of the unit (R63). -/
def Cell.accepted (serial : Nat) (x : Cell) : Cell :=
  { x with
    serial := serial
    phase := .a
    good := false
    missed := 0
    power := .mains
    demand := 0
    idleTimer := none
    deepTimer := none
    retuneTimer := none
    silenceTimer := none }

/-- The heartbeat timer armed with the heartbeat period. -/
def armHeartbeat (c : CellId) (s : State) : State :=
  modCell c (fun x => { x with heartbeatTimer := some (s.deadline s.settings.heartbeatPeriod) }) s

/-- Acceptance of a JOIN for a cell in its present state (R63). -/
def acceptJoin (c : CellId) (serial : Nat) (s : State) : State :=
  let before := (s.cell c).state
  let s1 := leaveRetuneList c (modCell c (Cell.accepted serial) s)
  let s2 := if before = .absent then s1 else strikeCell c s1
  let s3 :=
    if s2.zone.service then
      let t :=
        loadIdle c
          (emitDeck c (.acceptServe s2.zone.beacon s2.newestEpoch.number)
            (modCell c (fun x => { x with state := .serving, beacon := s2.zone.beacon, target := none }) s2))
      if before = .serving then t else enterServing t
    else
      emitDeck c .acceptSilent
        (modCell c (fun x => { x with state := .silent, beacon := none, target := none }) s2)
  armHeartbeat c s3

/-- Repeated acceptance of a SERVING cell (R64): ACCEPT again, supervision restarted, and the stored grant if above 0. The beacon
identity in force and the place on the retune list stay (DESIGN CHOICE, assumption 40). -/
def acceptAgain (c : CellId) (s : State) : State :=
  let t :=
    armHeartbeat c
      (modCell c (fun x => { x with phase := .a, good := false })
        (emitDeck c (.acceptServe s.zone.beacon s.newestEpoch.number) s))
  if 0 < (s.cell c).grant then emitDeck c (.grant (s.cell c).grant) t else t

/-- What a unit's restart brings about before its acceptance (R65): the grant of a SERVING cell is 0 without a frame, the
contexts naming it are orphaned, and the window place of a RETUNING one is freed; the cell itself still counts among the
RETUNING until it is accepted, so one more is allowed (assumption 18). -/
def unitRestarted (c : CellId) (s : State) : State :=
  let s1 := if (s.cell c).state = .serving then clearGrant c s else s
  let s2 := orphanCell c s1
  if (s.cell c).state = .retuning then dispatchUpTo (s2.settings.retuneWindow + 1) s2 else s2

/-- A unit's restart and its acceptance, after which the CAP recomputes for a cell that was SERVING (R53, R65). -/
def restartJoin (c : CellId) (serial : Nat) (s : State) : State :=
  let t := acceptJoin c serial (unitRestarted c s)
  if (s.cell c).state = .serving then recompute t else t

/-- A JOIN answered according to the cell's state and serial (R62). -/
def takeJoin (c : CellId) (serial : Nat) (s : State) : State :=
  match (s.cell c).state with
  | .absent | .lost | .silent => acceptJoin c serial s
  | .serving => if serial = (s.cell c).serial then acceptAgain c s else restartJoin c serial s
  | .doze | .deep | .retuning | .silencing =>
    if serial = (s.cell c).serial then countBad c s else restartJoin c serial s
  | .disabled => emitDeck c .refuseJoin s

/-- Whether the DUC holds JOINs: it has taken a restart that the EPC or the SBT has yet to take (R76). -/
def State.holdsJoins (s : State) : Bool :=
  !s.mail.restart.contains .duc && (s.mail.restart.contains .epc || s.mail.restart.contains .sbt)

/-- The held JOINs taken in their order of arrival once nothing holds them (R76). -/
def takeHeldJoins (s : State) : State :=
  if s.holdsJoins then s
  else forEach s.duc.heldJoins (fun j => takeJoin j.1 j.2) { s with duc := { s.duc with heldJoins := [] } }

/-- JOIN (R60, R62), held during a restart (R76, assumption 34). -/
def execJoin (unit serial : Nat) (s : State) : Host.Outcome State Fault Refusal :=
  done
    (match cellAt unit with
    | none => s
    | some c =>
      let n := serial % 4294967296
      if s.holdsJoins then { s with duc := { s.duc with heldJoins := s.duc.heldJoins ++ [(c, n)] } }
      else takeJoin c n s)

/-! ### The heartbeat (R66–R70) -/

/-- The other phase. -/
def Phase.flip : Phase → Phase
  | .a => .b
  | .b => .a

/-- A HEARTBEAT at a joined cell: good, or bad and counted (R66). -/
def takeHeartbeat (c : CellId) (phase : Phase) (power : Power) (demand : Nat) (s : State) : State :=
  let x := s.cell c
  if phase = x.phase then
    let d := min 4095 demand
    let t :=
      changePower c power
        (modCell c (fun y => { y with phase := y.phase.flip, good := true, demand := d }) s)
    if x.state = .serving ∧ d ≠ x.demand then { t with cap := { t.cap with demandChanged := true } } else t
  else countBad c s

/-- HEARTBEAT (R60, R66, R70); a phase or power that is not listed is counted (R59). -/
def execHeartbeat (unit phase power demand : Nat) (s : State) : Host.Outcome State Fault Refusal :=
  done
    (match cellAt unit with
    | none => s
    | some c =>
      if phase ≤ 1 ∧ power ≤ 1 then
        match (s.cell c).state with
        | .absent | .lost => emitDeck c .rejoin s
        | .disabled => s
        | _ =>
          takeHeartbeat c (if phase = 0 then .a else .b) (if power = 0 then .mains else .backup) demand s
      else countBad c s)

/-- The supervision step of a heartbeat expiry: the second period in a row without a good HEARTBEAT loses the cell (R67). -/
def supervise (c : CellId) (s : State) : State :=
  let missed := if (s.cell c).good then 0 else (s.cell c).missed + 1
  if 2 ≤ missed then loseCell c s
  else armHeartbeat c (modCell c (fun x => { x with missed := missed, good := false }) s)

/-- HEARTBEAT_TIMER_EXPIRY (R67, R69). -/
def execHeartbeatTimerExpiry (cell : Nat) (s : State) : Host.Outcome State Fault Refusal :=
  done
    (match cellAt cell with
    | none => s
    | some c => atExpiry (s.cell c).heartbeatTimer (supervise c) s)

/-- DECK_FRAME_INVALID: a payload whose header cannot be read, or whose unit address is above 23, is discarded; one that fails
its other checks is counted (R59, R196); a valid frame is none of this row's business (assumption 28). -/
def execDeckFrameInvalid (payload : List Byte) (s : State) : Host.Outcome State Fault Refusal :=
  done
    (match deckHeader payload with
    | none => s
    | some (unit, valid) =>
      match cellAt unit with
      | none => s
      | some c => if valid then s else countBad c s)

/-! ### Disabling and enabling (R71, R72) -/

/-- CELL_DISABLE's rule (R71). -/
def cellDisable (cell : Nat) (s : State) : Answer :=
  match cellAt cell with
  | none => answer .badArg s
  | some c =>
    if (s.cell c).state = .disabled then answer .ok s
    else answer .ok (dropCell .disabled c (emitDeck c .silence s))

/-- CELL_DISABLE (R71). -/
def execCellDisable (tag cell : Nat) (s : State) : Host.Outcome State Fault Refusal :=
  done (request tag 0x21 (be 1 cell) (cellDisable cell) s)

/-- CELL_ENABLE's rule (R72). -/
def cellEnable (cell : Nat) (s : State) : Answer :=
  match cellAt cell with
  | none => answer .badArg s
  | some c =>
    if (s.cell c).state = .disabled then answer .ok (modCell c (fun x => { x with state := .absent }) s)
    else answer .state s

/-- CELL_ENABLE (R72). -/
def execCellEnable (tag cell : Nat) (s : State) : Host.Outcome State Fault Refusal :=
  done (request tag 0x20 (be 1 cell) (cellEnable cell) s)

/-! ### The restart (R76) -/

/-- A cell record at a RESTART (R76). -/
def Cell.restarted (x : Cell) : Cell :=
  { Cell.dropped .absent x with phase := .a, power := .mains, demand := 0, beacon := none }

/-- One cell at a RESTART: REJOIN, ABSENT, and the CAP's leaving if it was SERVING; a DISABLED one is left (R76). -/
def restartCell (c : CellId) (s : State) : State :=
  if (s.cell c).state = .disabled then s
  else
    let t := modCell c Cell.restarted (emitDeck c .rejoin s)
    if (s.cell c).state = .serving then leaveServing c t else t

/-- The DUC's restart (R76), cell by cell in rising order (assumption 26). -/
def ducRestartEffect (s : State) : State := forEach allCells restartCell (setRetuneList [] s)

end Sys2Proof.Machine
end

