-- ==== Sys2Proof/Machine/Zones.lean ====
section
/-! DEFINITION. The Position and Zone Unit (01_position_and_jurisdiction_zones.md): matching, confirmation, the zone change, the
settling of a new table, and the meanings of FIX, ZONE_FORCE, ZONE_RELEASE and STALE_TIMER_EXPIRY. -/

namespace Sys2Proof.Machine

/-! ### Matching (R5) -/

/-- Whether a position lies inside a rectangle, edges included. -/
def Rect.covers (r : Rect) (lat lon : Int) : Bool :=
  decide (r.south ≤ lat) && decide (lat ≤ r.north) && decide (r.west ≤ lon) && decide (lon ≤ r.east)

/-- Whether a position lies inside a zone. -/
def ZoneRecord.covers (z : ZoneRecord) (lat lon : Int) : Bool := z.rects.any (fun r => r.covers lat lon)

/-- The present zones of highest priority among those a position lies inside, indices rising. -/
def ZoneTable.topZones (t : ZoneTable) (lat lon : Int) : List Nat :=
  let inside := t.zones.filter (fun e => e.2.covers lat lon)
  let top := (inside.map fun e => e.2.priority).foldl max 0
  (inside.filter (fun e => e.2.priority == top)).map Prod.fst

/-- The zone a position names, and whether two or more zones share the highest priority (R5). -/
def State.matched (s : State) (lat lon : Int) : ZoneId × Bool :=
  match s.pzu.table with
  | none => (255, false)
  | some t =>
    match t.topZones lat lon with
    | [] => (t.defaultZone, false)
    | z :: rest => (z, !rest.isEmpty)

/-! ### The zone change (R9) -/

/-- A zone change delivered to the EPC, the LKM, the DUC, and the SBT or the RGE, whichever acts on it (R9 step 5, R113, R133,
assumption 17). -/
def deliverChange (e : ZoneEvent) (s : State) : State :=
  { s with
    mail :=
      { s.mail with
        epc := s.mail.epc ++ [.zone]
        lkm := s.mail.lkm ++ [e]
        duc := s.mail.duc ++ [e]
        sbt := if e.record.service then s.mail.sbt else s.mail.sbt + 1
        rge := if e.record.service then s.mail.rge + 1 else s.mail.rge } }

/-- Candidate none and confirm count 0. -/
def clearCandidate (s : State) : State := { s with pzu := { s.pzu with candidate := none, confirmCount := 0 } }

/-- A zone change to a zone with a cause (R9). -/
def changeZone (cause : ChangeCause) (zone : ZoneId) (s : State) : State :=
  let t :=
    clearCandidate
      { s with pzu := { s.pzu with current := zone, lastChange := some ⟨cause, s.pzu.current, zone, s.shipTime⟩ } }
  deliverChange ⟨zone, t.zone⟩ (setCond .zoneChanged t)

/-! ### FIX (R6, R7, R10, R14) -/

/-- A fix of quality 1 or 2 recorded and matched, and the stale timer refreshed (R5, R6, R10). The ship time of arrival, from which
the stale time is measured too, is the ship time at which the PZU takes the request (DESIGN CHOICE, assumption 38). -/
def recordFix (lat lon : Int) (quality fixTime : Nat) (s : State) : State :=
  let m := s.matched lat lon
  let t :=
    { s with
      pzu :=
        { s.pzu with
          lastFix := some ⟨lat, lon, quality, fixTime, s.shipTime, m.1⟩
          position := .fresh
          staleTimer := some (s.deadline s.settings.staleTime) } }
  if m.2 then setCond .zoneOverlap t else t

/-- The confirmation step with a named zone, and the zone change it brings at the threshold (R7). -/
def confirm (zone : ZoneId) (s : State) : State :=
  if zone = s.pzu.current then clearCandidate s
  else
    let count := if s.pzu.candidate = some zone then s.pzu.confirmCount + 1 else 1
    let t := { s with pzu := { s.pzu with candidate := some zone, confirmCount := count } }
    if s.settings.confirmThreshold ≤ count then changeZone .fix zone t else t

/-- Whether a latitude and a longitude are in range. -/
def inRange (lat lon : Int) : Bool :=
  decide (-9000000 ≤ lat) && decide (lat ≤ 9000000) && decide (-18000000 ≤ lon) && decide (lon ≤ 18000000)

/-- FIX's rule (R6). -/
def fixRule (lat lon : Int) (quality fixTime : Nat) (s : State) : Answer :=
  if !inRange lat lon || decide (2 < quality) then answer .badArg s
  else if quality = 0 then answer .ok s
  else
    let t := recordFix lat lon quality (fixTime % 4294967296) s
    if quality = 2 ∧ s.pzu.forced = none then answer .ok (confirm (s.matched lat lon).1 t) else answer .ok t

/-- FIX (R6). -/
def execFix (tag : Nat) (lat lon : Int) (quality fixTime : Nat) (s : State) : Host.Outcome State Fault Refusal :=
  done
    (request tag 0x01 (be 4 (word32 lat) ++ be 4 (word32 lon) ++ be 1 quality ++ be 4 fixTime)
      (fixRule lat lon quality fixTime) s)

/-! ### Forced zones (R13, R15) -/

/-- The PZU forced on an index, or not. -/
def setForced (z : Option Nat) (s : State) : State := clearCandidate { s with pzu := { s.pzu with forced := z } }

/-- ZONE_FORCE's rule (R13). -/
def zoneForce (zone : Nat) (s : State) : Answer :=
  match s.zoneRecord zone with
  | none => answer .notFound s
  | some _ =>
    let t := setForced (some zone) s
    answer .ok (if zone = s.pzu.current then t else changeZone .force zone t)

/-- ZONE_FORCE (R13). -/
def execZoneForce (tag zone : Nat) (s : State) : Host.Outcome State Fault Refusal :=
  done (request tag 0x02 (be 1 zone) (zoneForce zone) s)

/-- ZONE_RELEASE's rule (R15). -/
def zoneRelease (s : State) : Answer :=
  match s.pzu.forced with
  | none => answer .state s
  | some _ => answer .ok (setForced none s)

/-- ZONE_RELEASE (R15). -/
def execZoneRelease (tag : Nat) (s : State) : Host.Outcome State Fault Refusal :=
  done (request tag 0x03 [] zoneRelease s)

/-! ### The stale timer (R11) -/

/-- STALE_TIMER_EXPIRY (R11). -/
def execStaleTimerExpiry (s : State) : Host.Outcome State Fault Refusal :=
  done
    (atExpiry s.pzu.staleTimer
      (fun t => setCond .positionStale { t with pzu := { t.pzu with position := .stale, staleTimer := none } }) s)

/-! ### A new table (R4) -/

/-- Whether two records differ in a field that makes a commit a zone change (R4 step 2). -/
def ZoneRecord.differs (a b : ZoneRecord) : Bool :=
  a.kind != b.kind || a.jurisdiction != b.jurisdiction || a.service != b.service || a.kinds != b.kinds
    || a.beacon != b.beacon

/-- A table that has passed its checks made live, and the current zone settled against it (R4). -/
def settleTable (t : ZoneTable) (s : State) : State :=
  let old := s.zone
  let live := clearCandidate { s with pzu := { s.pzu with table := some t } }
  let kept (z : Option Nat) : Option Nat := z.filter (fun i => (Assoc.get t.zones i).isSome)
  match Assoc.get t.zones s.pzu.current with
  | some new => if old.differs new then changeZone .table s.pzu.current live else live
  | none =>
    changeZone .table t.defaultZone { live with pzu := { live.pzu with forced := kept s.pzu.forced } }

end Sys2Proof.Machine
end

