-- ==== Sys2Proof/Machine/Tables.lean ====
section
/-! DEFINITION. The bulk tables: their load formats (section 12.6), the encoding checks of R197, the content checks of R3, R98, R120
and R152, and what makes a table live. -/

namespace Sys2Proof.Machine

/-- The number in `n` bytes from an offset. -/
def fieldAt (bs : List Byte) (offset n : Nat) : Nat := beNat ((bs.drop offset).take n)

/-! ### Zone tables (R3, R197) -/

/-- A zone record as its bytes give it. -/
structure RawZone where
  index : Nat
  kind : Nat
  jurisdiction : Nat
  priority : Nat
  service : Nat
  kinds : Nat
  beacon : Beacon
  rects : List Rect
  deriving DecidableEq, Repr

/-- `n` rectangles from the head of bytes that hold them. -/
def decodeRects : Nat → List Byte → List Rect
  | 0, _ => []
  | n + 1, bs =>
    { south := signed32 (fieldAt bs 0 4)
      north := signed32 (fieldAt bs 4 4)
      west := signed32 (fieldAt bs 8 4)
      east := signed32 (fieldAt bs 12 4) } :: decodeRects n (bs.drop 16)

/-- `n` zone records that end exactly with the bytes; none where a record lacks data or bytes are left over (R197). -/
def decodeZones : Nat → List Byte → Option (List RawZone)
  | 0, bs => if bs.isEmpty then some [] else none
  | n + 1, bs =>
    let size := 11 + 16 * fieldAt bs 10 1
    if bs.length < 11 || bs.length < size then none
    else
      let z : RawZone :=
        { index := fieldAt bs 0 1
          kind := fieldAt bs 1 1
          jurisdiction := fieldAt bs 2 2
          priority := fieldAt bs 4 1
          service := fieldAt bs 5 1
          kinds := fieldAt bs 6 1
          beacon := BitVec.ofNat 24 (fieldAt bs 7 3)
          rects := decodeRects (fieldAt bs 10 1) (bs.drop 11) }
      (decodeZones n (bs.drop size)).map (z :: ·)

/-- A zone kind by its code (section 12.6). -/
def ZoneKind.ofNumber : Nat → Option ZoneKind
  | 0 => some .port
  | 1 => some .territorial
  | 2 => some .international
  | _ => none

/-- Whether a rectangle passes R3. -/
def Rect.valid (r : Rect) : Bool :=
  decide (r.south ≤ r.north) && decide (r.west ≤ r.east) && decide (-9000000 ≤ r.south) && decide (r.north ≤ 9000000)
    && decide (-18000000 ≤ r.west) && decide (r.east ≤ 18000000)

/-- A zone record that passes R3's checks of one record; none where it fails. -/
def RawZone.check (z : RawZone) : Option (Nat × ZoneRecord) :=
  match ZoneKind.ofNumber z.kind with
  | none => none
  | some kind =>
    if decide (z.index ≤ 31) && decide (1 ≤ z.rects.length) && decide (z.rects.length ≤ 4) && z.rects.all Rect.valid
        && decide (z.jurisdiction ≤ 999) && decide (z.priority ≤ 15) && decide (z.service ≤ 1) && decide (z.kinds ≤ 7)
        && beaconValid z.beacon then
      some
        (z.index,
          { kind := kind
            jurisdiction := z.jurisdiction
            priority := z.priority
            service := z.service == 1
            kinds := ⟨z.kinds % 2 == 1, z.kinds / 2 % 2 == 1, z.kinds / 4 == 1⟩
            beacon := some z.beacon
            rects := z.rects })
    else none

/-- Records put in rising index order; none where an index comes twice (R3, assumption 23). -/
def indexZones : List (Nat × ZoneRecord) → Option (List (Nat × ZoneRecord))
  | [] => some []
  | (i, z) :: rest =>
    match indexZones rest with
    | none => none
    | some l => if (Assoc.get l i).isSome then none else some (Assoc.put l i z)

/-- The zone table in staged bytes, if it passes R197 and R3. -/
def zoneTableOf (bs : List Byte) : Option ZoneTable :=
  if bs.length < 2 || decide (32 < fieldAt bs 1 1) then none
  else
    match decodeZones (fieldAt bs 1 1) (bs.drop 2) with
    | none => none
    | some raw =>
      match (raw.mapM RawZone.check).bind indexZones with
      | none => none
      | some zones =>
        match Assoc.get zones (fieldAt bs 0 1) with
        | none => none
        | some z => if z.kind = .international then some ⟨fieldAt bs 0 1, zones⟩ else none

/-! ### Partner tables (R120, R197) -/

/-- A partner mode by its code (section 12.6). -/
def PartnerMode.ofNumber : Nat → Option PartnerMode
  | 0 => some .forbidden
  | 1 => some .local
  | 2 => some .authorize
  | _ => none

/-- A checked partner entry at its place, zone × 16 + group; none where it fails R120. -/
def decodePartner (bs : List Byte) : Option (Nat × PartnerEntry) :=
  match PartnerMode.ofNumber (fieldAt bs 2 1) with
  | none => none
  | some mode =>
    if fieldAt bs 0 1 ≤ 31 ∧ fieldAt bs 1 1 ≤ 15 ∧ fieldAt bs 4 1 ≤ 15 then
      some (fieldAt bs 0 1 * 16 + fieldAt bs 1 1, ⟨mode, fieldAt bs 3 1, fieldAt bs 4 1⟩)
    else none

/-- `n` checked partner entries from the head of bytes. -/
def decodePartners : Nat → List Byte → Option (List (Nat × PartnerEntry))
  | 0, _ => some []
  | n + 1, bs =>
    match decodePartner bs, decodePartners n (bs.drop 5) with
    | some e, some rest => some (e :: rest)
    | _, _ => none

/-- The 512 entries by place, if entries name every place; 512 entries do so exactly when no two name one pair (R120). -/
def placePartners (entries : List (Nat × PartnerEntry)) : Option (List PartnerEntry) :=
  (List.range 512).mapM (fun i => (entries.find? (fun e => e.1 == i)).map Prod.snd)

/-- The partner table in staged bytes, if it passes R197 and R120. -/
def partnerTableOf (bs : List Byte) : Option (List PartnerEntry) :=
  if bs.length = 2560 then (decodePartners 512 bs).bind placePartners else none

/-! ### Tariff tables (R152, R197) -/

/-- The tariff in 12 bytes. -/
def decodeTariff (bs : List Byte) : Tariff := ⟨fieldAt bs 0 4, fieldAt bs 4 4, fieldAt bs 8 4⟩

/-- Whether a tariff passes R152. -/
def Tariff.valid (t : Tariff) : Bool :=
  decide (t.price ≤ 1000000) && decide (t.fee ≤ 10000000) && (List.range 11).any (fun k => t.block == 1024 * 2 ^ k)

/-- The tariff table in staged bytes, if it passes R197 and R152. -/
def tariffTableOf (bs : List Byte) : Option TariffTable :=
  if bs.length = 200 then
    let tariffs : Vector Tariff 16 := Vector.ofFn fun i => decodeTariff (bs.drop (12 * i.val))
    let multipliers : Vector Nat 4 := Vector.ofFn fun i => fieldAt bs (192 + 2 * i.val) 2
    if tariffs.toList.all Tariff.valid && multipliers.toList.all (fun m => decide (1000 ≤ m) && decide (m ≤ 4000)) then
      some ⟨tariffs, multipliers⟩
    else none
  else none

/-! ### Home group tables (R98, R197) -/

/-- The pattern entry in 11 bytes. -/
def decodePattern (bs : List Byte) : PatternEntry :=
  ⟨BitVec.ofNat 64 (fieldAt bs 0 8), BitVec.ofNat 16 (fieldAt bs 8 2), fieldAt bs 10 1⟩

/-- `n` pattern entries from the head of bytes. -/
def decodePatterns : Nat → List Byte → List PatternEntry
  | 0, _ => []
  | n + 1, bs => decodePattern bs :: decodePatterns n (bs.drop 11)

/-- Whether a pattern entry passes R197 and R98; the 16th half-byte of the pattern is not judged (assumption 24). -/
def PatternEntry.valid (p : PatternEntry) : Bool :=
  !p.mask.getLsbD 15 && (List.range 15).all (fun i => sidDigit p.pattern i ≤ 9) && decide (p.group ≤ 15)

/-- The home group table in staged bytes, if it passes R197 and R98. -/
def homeGroupTableOf (bs : List Byte) : Option (List PatternEntry) :=
  let n := fieldAt bs 0 1
  if bs.length = 1 + 11 * n ∧ n ≤ 64 then
    let entries := decodePatterns n (bs.drop 1)
    if entries.all PatternEntry.valid then some entries else none
  else none

/-! ### Making a table live -/

/-- The number of the generation that follows one (R120, R152). -/
def nextGeneration (n : Nat) : Nat := (n + 1) % 256

/-- A partner table made the newest generation: the EPC is to open an epoch and the RGE to re-evaluate (R120). -/
def commitPartners (t : List PartnerEntry) (s : State) : State :=
  let g : PartnerGen := ⟨nextGeneration s.newestPartner.number, some t⟩
  mailEpoch .partnerLoad
    { s with
      rge := { s.rge with generations := s.rge.generations ++ [g] }
      mail := { s.mail with rge := s.mail.rge + 1 } }

/-- A tariff table made the newest generation: the EPC is to open an epoch (R152). -/
def commitTariffs (t : TariffTable) (s : State) : State :=
  let g : TariffGen := ⟨nextGeneration s.newestTariff.number, some t⟩
  mailEpoch .tariffLoad { s with rte := { s.rte with generations := s.rte.generations ++ [g] } }

/-- A home group table made live (R98). -/
def commitPatterns (t : List PatternEntry) (s : State) : State := { s with sbt := { s.sbt with patterns := some t } }

/-- Staged bytes checked and committed as a table kind: the state after, and the new generation's number where there is one;
none where the checks fail (R189 steps 2 and 3). -/
def commitTable (kind : TableKind) (bs : List Byte) (s : State) : Option (State × List Byte) :=
  match kind with
  | .zone => (zoneTableOf bs).map (fun t => (settleTable t s, []))
  | .partner =>
    (partnerTableOf bs).map (fun t => (commitPartners t s, be 1 (nextGeneration s.newestPartner.number)))
  | .tariff => (tariffTableOf bs).map (fun t => (commitTariffs t s, be 1 (nextGeneration s.newestTariff.number)))
  | .homeGroup => (homeGroupTableOf bs).map (fun t => (commitPatterns t s, []))

end Sys2Proof.Machine
end

