-- ==== Sys2Proof/Machine/Control.lean ====
section
/-! DEFINITION. The control port's own requests but for the settings and the queries (sections 11.2 to 11.5): the meanings of
COND_CLEAR, COND_MASK, UNLOCK, LOCK, LOCKOUT_TIMER_EXPIRY, CODE_SET, LOAD_BEGIN, LOAD_DATA, LOAD_COMMIT and TIME_SET. -/

namespace Sys2Proof.Machine

/-! ### Conditions (R184, R185) -/

/-- COND_CLEAR's rule: the reply reports the set before and after (R184). -/
def condClear (conds : CondSet) (s : State) : Answer :=
  let t := clearConds conds s
  ⟨t, .ok, be 2 s.ctp.conditions.toNat ++ be 2 t.ctp.conditions.toNat⟩

/-- COND_CLEAR (R184). -/
def execCondClear (tag : Nat) (conds : CondSet) (s : State) : Host.Outcome State Fault Refusal :=
  done (request tag 0x63 (be 2 conds.toNat) (condClear conds) s)

/-- COND_MASK (R184, R185). -/
def execCondMask (tag : Nat) (conds : CondSet) (s : State) : Host.Outcome State Fault Refusal :=
  done (request tag 0x64 (be 2 conds.toNat) (fun t => answer .ok (setMask conds t)) s)

/-! ### The lock (R186, R187) -/

/-- The lock state and the mismatch count set. -/
def setLock (locked : Bool) (mismatches : Nat) (s : State) : State :=
  { s with ctp := { s.ctp with locked := locked, mismatches := mismatches } }

/-- An UNLOCK whose code differs: LOCKED, the count raised, and the lockout timer at 60 s when it reaches 3 (R186). -/
def mismatch (s : State) : State :=
  let n := min 3 (s.ctp.mismatches + 1)
  let t := setLock true n s
  if n = 3 then { t with ctp := { t.ctp with lockoutTimer := some (s.deadline 60) } } else t

/-- UNLOCK's rule (R186). -/
def unlock (code : Code) (s : State) : Answer :=
  match s.ctp.lockoutTimer, s.ctp.code with
  | some _, _ => answer .locked s
  | none, none => answer .ok s
  | none, some c => if code = c then answer .ok (setLock false 0 s) else answer .locked (mismatch s)

/-- UNLOCK (R186). -/
def execUnlock (tag : Nat) (code : Code) (s : State) : Host.Outcome State Fault Refusal :=
  done (request tag 0x66 (be 8 code.toNat) (unlock code) s)

/-- LOCK's rule (R186). -/
def lockPort (s : State) : Answer :=
  match s.ctp.code with
  | none => answer .state s
  | some _ => answer .ok (setLock true s.ctp.mismatches s)

/-- LOCK (R186). -/
def execLock (tag : Nat) (s : State) : Host.Outcome State Fault Refusal := done (request tag 0x67 [] lockPort s)

/-- LOCKOUT_TIMER_EXPIRY: the mismatch count becomes 0 (R186). -/
def execLockoutTimerExpiry (s : State) : Host.Outcome State Fault Refusal :=
  done
    (atExpiry s.ctp.lockoutTimer
      (fun t => { t with ctp := { t.ctp with lockoutTimer := none, mismatches := 0 } }) s)

/-- CODE_SET's rule: eight zero bytes make the code absent; the port stays UNLOCKED and the mismatch count becomes 0 (R187). -/
def codeSet (code : Code) (s : State) : Answer :=
  answer .ok
    { s with ctp := { s.ctp with code := if code = 0#64 then none else some code, mismatches := 0 } }

/-- CODE_SET (R187). -/
def execCodeSet (tag : Nat) (code : Code) (s : State) : Host.Outcome State Fault Refusal :=
  done (request tag 0x68 (be 8 code.toNat) (codeSet code) s)

/-! ### Bulk loads (R188, R189) -/

/-- The load state set. -/
def setLoad (l : Option Load) (s : State) : State := { s with ctp := { s.ctp with load := l } }

/-- A table kind by its code (section 12.2). -/
def TableKind.ofNumber : Nat → Option TableKind
  | 0 => some .zone
  | 1 => some .partner
  | 2 => some .tariff
  | 3 => some .homeGroup
  | _ => none

/-- LOAD_BEGIN's rule (R188). -/
def loadBegin (kind total checksum : Nat) (s : State) : Answer :=
  match TableKind.ofNumber kind with
  | none => answer .badArg s
  | some k =>
    if 1 ≤ total ∧ total ≤ 16384 then answer .ok (setLoad (some ⟨k, total, checksum % 4294967296, []⟩) s)
    else answer .badArg s

/-- LOAD_BEGIN (R188). -/
def execLoadBegin (tag kind total checksum : Nat) (s : State) : Host.Outcome State Fault Refusal :=
  done (request tag 0x69 (be 1 kind ++ be 2 total ++ be 4 checksum) (loadBegin kind total checksum) s)

/-- LOAD_DATA's rule (R188). -/
def loadData (offset : Nat) (bytes : List Byte) (s : State) : Answer :=
  match s.ctp.load with
  | none => answer .state s
  | some l =>
    if l.total < offset + bytes.length then answer .badArg s
    else
      let cells := Staging.write l.cells offset bytes
      ⟨setLoad (some { l with cells := cells }) s, .ok, be 2 cells.length⟩

/-- LOAD_DATA (R188). -/
def execLoadData (tag offset : Nat) (bytes : List Byte) (s : State) : Host.Outcome State Fault Refusal :=
  done (request tag 0x6A (be 2 offset ++ bytes) (loadData offset bytes) s)

/-- Whether the staged bytes cover the total length and have the declared sum (R189 step 1). -/
def Load.complete (l : Load) : Bool := l.cells.length == l.total && Staging.sum l.cells == l.checksum

/-- LOAD_COMMIT's rule (R189): in every outcome with a load open, the load state becomes IDLE. -/
def loadCommit (s : State) : Answer :=
  match s.ctp.load with
  | none => answer .state s
  | some l =>
    let t := setLoad none s
    if l.complete then
      match commitTable l.kind (l.cells.map Prod.snd) t with
      | none => answer .loadInvalid t
      | some (u, body) => ⟨u, .ok, body⟩
    else ⟨t, .loadMismatch, be 2 l.cells.length ++ be 4 (Staging.sum l.cells)⟩

/-- LOAD_COMMIT (R189). -/
def execLoadCommit (tag : Nat) (s : State) : Host.Outcome State Fault Refusal :=
  done (request tag 0x6B [] loadCommit s)

/-! ### Time (R191) -/

/-- TIME_SET's rule: the base becomes the second given and the present ship time (R191). -/
def timeSet (seconds : Nat) (s : State) : Answer :=
  answer .ok { s with ctp := { s.ctp with utc := some ⟨seconds % 4294967296, s.shipTime⟩ } }

/-- TIME_SET (R191). -/
def execTimeSet (tag seconds : Nat) (s : State) : Host.Outcome State Fault Refusal :=
  done (request tag 0x62 (be 4 seconds) (timeSet seconds) s)

end Sys2Proof.Machine
end

