-- ==== Sys2Proof/Machine/Registration.lean ====
section
/-! DEFINITION. The Registration Engine (07_roaming_registration.md), with the admission and the refusal it hands to the Subscriber
Table (R105, R106): sending, answers, failures, link departures and re-evaluation, and the meanings of REG_ANS,
REG_TIMEOUT_DEADLINE, REEVALUATION and SUB_REREGISTER. -/

namespace Sys2Proof.Machine

/-! ### Admission and refusal (R105, R106) -/

/-- ADMIT to a context's serving cell, and RESTRICT if it is restricted (R102, R105). -/
def sendAdmit (k : Nat) (x : Context) (s : State) : State :=
  let t := sendDeck x.cell (.admission x.sid k) s
  if x.restrictions.isEmpty then t else sendDeck x.cell (.restrict x.sid k) t

/-- Admission of a context (R105). A limited context with balance 0 is listed EMPTY, and its low-notified flag stays clear (DESIGN
CHOICE, assumption 42). -/
def admitContext (k : Nat) (s : State) : State :=
  match s.context k with
  | none => s
  | some x =>
    let t := sendAdmit k x (setContext k { x with state := .active, jurisdiction := some s.zone.jurisdiction } s)
    if !x.quota.unlimited && x.quota.balance == 0 then joinAttention k .empty t else t

/-- Refusal of a pending attach: REFUSE to the serving cell, and the context is freed (R106). -/
def refuseContext (k : Nat) (cause : RefuseCause) (s : State) : State :=
  match s.context k with
  | none => s
  | some x => freeContext k (sendDeck x.cell (.refuse cause x.sid) s)

/-! ### Fields the RGE writes -/

/-- The ZONE restriction added (R115). -/
def addZone (k : Nat) (s : State) : State := restrict k (fun r => { r with zone := true }) s

/-- The ZONE restriction removed (R115). -/
def removeZone (k : Nat) (s : State) : State := restrict k (fun r => { r with zone := false }) s

/-- A context's partner and jurisdiction set. -/
def setPartner (k : Nat) (partner jurisdiction : Option Nat) (s : State) : State :=
  modContext k (fun x => { x with partner := partner, jurisdiction := jurisdiction }) s

/-- A re-registration settled by a partner: NONE, partner and jurisdiction set, ZONE removed (R124, R127). -/
def settlePartner (k partner jurisdiction : Nat) (s : State) : State :=
  removeZone k (setPartner k (some partner) (some jurisdiction) (setRegistration k .none s))

/-- A re-registration lost: NONE, partner and jurisdiction none, ZONE added (R128, R131). -/
def losePartner (k : Nat) (s : State) : State :=
  addZone k (setPartner k none none (setRegistration k .none s))

/-- An attach settled by a partner: NONE, partner set, and the context admitted (R124, R127). -/
def admitPartner (k partner : Nat) (s : State) : State :=
  admitContext k
    (modContext k (fun x => { x with partner := some partner }) (setRegistration k .none s))

/-- An attach turned away: NONE, and the context refused (R124, R128, R131). -/
def turnAway (k : Nat) (cause : RefuseCause) (s : State) : State := refuseContext k cause (setRegistration k .none s)

/-! ### Sending (R122–R124) -/

/-- The carrying link (R40). -/
def State.carryingLink (s : State) : Option LinkId := allLinks.find? (fun l => (s.link l).state == .carrying)

/-- The first of `fuel` numbers from `n` on, wrapping, that no outstanding entry has. -/
def freeCorrelation (outstanding : List Outstanding) : Nat → Nat → Nat
  | 0, n => n
  | fuel + 1, n =>
    if outstanding.any (fun o => o.correlation == n) then freeCorrelation outstanding fuel ((n + 1) % 65536) else n

/-- The correlation number of the next send (R122). -/
def State.correlation (s : State) : Nat :=
  freeCorrelation s.rge.outstanding s.rge.outstanding.length s.rge.nextCorrelation

/-- The outstanding entry of a send (R124). -/
def State.entryFor (s : State) (k : Nat) (e : PartnerEntry) (l : LinkId) : Outstanding where
  correlation := s.correlation
  ctx := k
  zone := s.pzu.current
  jurisdiction := s.zone.jurisdiction
  partner := e.partner
  link := l
  deadline := s.deadline s.settings.regTimeout
  abandoned := false

/-- A REG_REQ sent for a context on the carrying link (R124, AUTHORIZE). -/
def sendRegReq (k : Nat) (x : Context) (attempt : Nat) (purpose : Purpose) (e : PartnerEntry) (l : LinkId)
    (s : State) : State :=
  let o := s.entryFor k e l
  let t :=
    sendTerminal l (.regReq o.correlation x.sid o.jurisdiction o.partner s.settings.shipId)
      { s with
        rge :=
          { s.rge with
            outstanding := s.rge.outstanding ++ [o]
            nextCorrelation := (o.correlation + 1) % 65536 } }
  setContext k
    { x with
      registration := .sent attempt purpose
      partner := if purpose = .attach then some e.partner else x.partner } t

/-- A context taken from the queue head: its request built from the entry as it stands (R124). -/
def buildRequest (k : Nat) (l : LinkId) (s : State) : State :=
  match s.context k with
  | none => s
  | some x =>
    match x.registration with
    | .queued attempt purpose =>
      let e := s.partnerEntry x.homeGroup
      match e.mode, purpose with
      | .authorize, _ => sendRegReq k x attempt purpose e l s
      | .local, .attach => admitPartner k e.partner s
      | .local, .rereg => settlePartner k e.partner s.zone.jurisdiction s
      | .forbidden, .attach => turnAway k .roamingNotAllowed s
      | .forbidden, .rereg =>
        addZone k (modContext k (fun y => { y with partner := none }) (setRegistration k .none s))
    | _ => s

/-- At most `n` heads taken while the queue is not empty, a link carries and fewer than 32 entries are outstanding (R123). -/
def sendWhile : Nat → State → State
  | 0, s => s
  | n + 1, s =>
    match s.rge.queue, s.carryingLink with
    | k :: rest, some l =>
      if s.rge.outstanding.length < 32 then
        sendWhile n (buildRequest k l { s with rge := { s.rge with queue := rest } })
      else s
    | _, _ => s

/-- The RGE tests its three conditions and takes heads (R123). -/
def sendQueued (s : State) : State := sendWhile s.rge.queue.length s

/-- A context put at the tail of the registration queue with an attempt and a purpose, and R123 tested (R121, R123). -/
def enqueue (k attempt : Nat) (purpose : Purpose) (s : State) : State :=
  sendQueued
    (setRegistration k (.queued attempt purpose) { s with rge := { s.rge with queue := s.rge.queue ++ [k] } })

/-! ### Failures (R129–R131) -/

/-- A failed attempt (R131). -/
def failAttempt (k : Nat) (s : State) : State :=
  match (s.context k).map Context.registration with
  | some (.sent 1 purpose) => enqueue k 2 purpose s
  | some (.sent _ .attach) => turnAway k .shoreTimeout s
  | some (.sent _ .rereg) => setCond .regFailure (losePartner k s)
  | _ => s

/-- The outstanding entry with a correlation number. -/
def State.entryOf (s : State) (correlation : Nat) : Option Outstanding :=
  s.rge.outstanding.find? (fun o => o.correlation == correlation)

/-- An outstanding entry removed. -/
def removeEntry (correlation : Nat) (s : State) : State :=
  { s with
    rge := { s.rge with outstanding := s.rge.outstanding.filter (fun o => o.correlation != correlation) } }

/-- An entry removed without an answer: a failed attempt unless it was abandoned, and then R123 tested (R129, R130; assumptions 36
and 49). -/
def expireEntry (o : Outstanding) (s : State) : State :=
  let t := removeEntry o.correlation s
  sendQueued (if o.abandoned then t else failAttempt o.ctx t)

/-- A link has left CARRYING and DRAINING: its entries are removed in the order of the table (R130). -/
def linkDeparted (l : LinkId) (s : State) : State :=
  forEach (s.rge.outstanding.filter (fun o => o.link == l)) expireEntry s

/-- REG_TIMEOUT_DEADLINE of the entry with a correlation number (R129); nothing where there is none. -/
def execRegTimeoutDeadline (correlation : Nat) (s : State) : Host.Outcome State Fault Refusal :=
  done
    (match s.entryOf correlation with
    | none => s
    | some o => expireEntry o (reachDeadline o.deadline s))

/-! ### Answers (R125–R128) -/

/-- The unmatched answer count raised, saturating (R125). -/
def countUnmatched (s : State) : State := { s with rge := { s.rge with unmatched := satAdd max16 s.rge.unmatched 1 } }

/-- Whether an answer to an entry is stale for a home group (R126). -/
def State.staleAnswer (s : State) (o : Outstanding) (group : Nat) : Bool :=
  let e := s.partnerEntry group
  o.zone != s.pzu.current || o.jurisdiction != s.zone.jurisdiction
    || !(e.mode == .authorize && e.partner == o.partner)

/-- The cause of a REJECT; any other value is SHORE_REFUSED (R128). -/
def shoreCause (cause : Nat) : RefuseCause :=
  match cause with
  | 1 => .subscriberUnknown
  | 2 => .subscriberBarred
  | 3 => .noAgreement
  | _ => .shoreRefused

/-- A matching answer, its entry removed (R126–R128); `accept` is its result. -/
def takeAnswer (o : Outstanding) (accept : Bool) (cause : Nat) (s : State) : State :=
  if o.abandoned then s
  else
    match s.context o.ctx with
    | none => s
    | some x =>
      match x.registration with
      | .sent attempt purpose =>
        if s.staleAnswer o x.homeGroup then enqueue o.ctx attempt purpose s
        else
          match accept, purpose with
          | true, .attach => admitPartner o.ctx o.partner s
          | true, .rereg => settlePartner o.ctx o.partner o.jurisdiction s
          | false, .attach => turnAway o.ctx (shoreCause cause) s
          | false, .rereg => losePartner o.ctx s
      | _ => s

/-- An answer that arrived on a link which is not OFF (R125). The test of R123 that the removal of a matching entry brings comes
after the answer's own effect (DESIGN CHOICE, assumption 49). -/
def matchAnswer (l : LinkId) (correlation : Nat) (accept : Bool) (cause : Nat) (s : State) : State :=
  match s.entryOf correlation with
  | none => countUnmatched s
  | some o =>
    if o.link = l ∧ ((s.link l).state = .carrying ∨ (s.link l).state = .draining) then
      sendQueued (takeAnswer o accept cause (removeEntry correlation s))
    else countUnmatched s

/-- REG_ANS in a SIGNAL frame from a link (R41, R125–R128); a link that is not there or OFF, and a result not listed, are
discarded (R19, R196). -/
def execRegAns (link correlation result cause : Nat) (s : State) : Host.Outcome State Fault Refusal :=
  done
    (match linkAt link with
    | none => s
    | some l =>
      if (s.link l).state = .off ∨ 1 < result then s
      else matchAnswer l (correlation % 65536) (result == 0) cause s)

/-! ### Re-evaluation (R133) and SUB_REREGISTER (R134) -/

/-- The re-evaluation of one context (R133). -/
def reevaluateContext (k : Nat) (s : State) : State :=
  match s.context k with
  | none => s
  | some x =>
    if x.state = .active then
      let e := s.partnerEntry x.homeGroup
      match e.mode with
      | .forbidden => addZone k (modContext k (fun y => { y with partner := none }) (cancelRegistration k s))
      | .local =>
        removeZone k (setPartner k (some e.partner) (some s.zone.jurisdiction) (cancelRegistration k s))
      | .authorize =>
        if x.partner = some e.partner ∧ x.jurisdiction = some s.zone.jurisdiction then s
        else if x.registration = .none then enqueue k 1 .rereg s
        else s
    else s

/-- Every ACTIVE context re-evaluated, in rising order (R133). -/
def reevaluateAll (s : State) : State := forEach s.contextIndices reevaluateContext s

/-- REEVALUATION: the RGE takes the oldest zone change with service, or partner commit, delivered to it (R133, assumption 2). -/
def execReevaluation (s : State) : Host.Outcome State Fault Refusal :=
  done
    (match s.mail.rge with
    | 0 => s
    | n + 1 => reevaluateAll { s with mail := { s.mail with rge := n } })

/-- SUB_REREGISTER's rule (R134). -/
def subReregister (k : Nat) (s : State) : Answer :=
  if 2047 < k then answer .badArg s
  else
    match s.context k with
    | none => answer .notFound s
    | some x =>
      if x.state = .active then
        match x.registration with
        | .sent _ _ => answer .state s
        | .queued _ _ => answer .ok s
        | .none => answer .ok (enqueue k 1 .rereg s)
      else answer .state s

/-- SUB_REREGISTER (R134). -/
def execSubReregister (tag ctx : Nat) (s : State) : Host.Outcome State Fault Refusal :=
  done (request tag 0x33 (be 2 ctx) (subReregister ctx) s)

/-! ### The restart (R137) -/

/-- The RGE's restart: queue and table emptied, and every registration NONE (R137). -/
def rgeRestartEffect (s : State) : State :=
  { s with
    rge := { s.rge with queue := [], outstanding := [] }
    sbt := { s.sbt with contexts := s.sbt.contexts.map fun e => (e.1, { e.2 with registration := .none }) } }

end Sys2Proof.Machine
end

