-- ==== Sys2Proof/Machine/Links.lean ====
section
/-! DEFINITION. The Link Manager (02_backhaul_links.md): entry actions, what it hands on, selection, and the meanings of the link
commands. -/

namespace Sys2Proof.Machine

/-! ### Quality, score and eligibility (R27, R32, R33) -/

/-- A link's effective quality (R27). -/
def Link.quality (x : Link) : Nat :=
  match x.last with
  | none => 0
  | some r => if x.statusAge < 3 then r.quality else 0

/-- A link's score, 0 to 150 (R32). -/
def Link.score (x : Link) : Nat :=
  match x.last with
  | none => 0
  | some r => if x.statusAge < 3 then min 150 (r.quality + x.cfg.bonus - r.latency / 100) else 0

/-- A link's effective capacity, should it carry: the reported capacity stored, 0 where no STATUS is held (R40,
assumption 19). -/
def Link.capacity (x : Link) : Nat :=
  match x.last with
  | none => 0
  | some r => r.capacity

/-- Whether a link is eligible under a set of permitted kinds (R33). -/
def Link.eligible (kinds : KindSet) (x : Link) : Bool :=
  x.cfg.enabled && kinds.has x.cfg.kind && (x.state == .ready || x.state == .carrying)

/-! ### Entry actions (R23) -/

/-- A link record as it enters a state (R23), its drain timer stopped on leaving DRAINING and its hold-off timer on leaving
FAULT; `now` is the ship time and `limit` the drain limit. -/
def Link.entering (state : LinkState) (now limit : Nat) (x : Link) : Link :=
  let y := { x with state := state, drainTimer := none, holdOffTimer := none }
  match state with
  | .off =>
    { y with goodEchoes := 0, misses := 0, lowQuality := 0, probeOut := false, carryTimer := none, last := none }
  | .down => { y with goodEchoes := 0, misses := 0, lowQuality := 0, probeOut := false, carryTimer := none }
  | .probing => { y with goodEchoes := 0, lowQuality := 0 }
  | .ready => { y with lowQuality := 0 }
  | .engaging => { y with carryTimer := some (now + 5000) }
  | .carrying => { y with carryTimer := none }
  | .draining =>
    { y with
      goodEchoes := 0
      misses := 0
      probeOut := false
      carryTimer := none
      drainTimer := some (now + 1000 * limit) }
  | .fault =>
    { y with
      goodEchoes := 0
      misses := 0
      lowQuality := 0
      probeOut := false
      carryTimer := none
      holdOffTimer := some (now + 30000) }

/-- Whether a link in a state has been ordered to carry. -/
def LinkState.ordered : LinkState → Bool
  | .engaging | .carrying => true
  | _ => false

/-- The frames and the condition of a state's entry actions, from a previous state (R23). -/
def entryFrames (l : LinkId) (before after : LinkState) (s : State) : State :=
  match after with
  | .engaging => sendTerminal l .carry s
  | .draining => sendTerminal l .release s
  | .fault => setCond .linkFault (if before.ordered then sendTerminal l .release s else s)
  | _ => s

/-- A link enters a state (R23). -/
def enterState (l : LinkId) (state : LinkState) (s : State) : State :=
  entryFrames l (s.link l).state state (modLink l (Link.entering state s.shipTime s.settings.drainLimit) s)

/-! ### What the LKM hands on (R40, R41) -/

/-- The effective capacity of the carrying link, 0 where there is none (R40). -/
def State.carriedCapacity (s : State) : Nat :=
  match s.carryingLink with
  | none => 0
  | some l => (s.link l).capacity

/-- The link class: the kind of the carrying link, or NONE (R40). -/
def State.linkClass (s : State) : LinkClass := s.carryingLink.map (fun l => (s.link l).cfg.kind)

/-- The link class handed to the EPC where it differs from the class last handed (R40). -/
def handClass (s : State) : State :=
  if s.linkClass = s.lkm.classHanded then s
  else mailEpoch .linkClass { s with lkm := { s.lkm with classHanded := s.linkClass } }

/-- The carrying link has changed: capacity and class handed on, and LINK_SWAPPED or NO_BACKHAUL set (R40). -/
def carryingChanged (s : State) : State :=
  setCond (if s.carryingLink.isSome then .linkSwapped else .noBackhaul) (handClass (mailCapacity s.carriedCapacity s))

/-- Whether a link in a state may bring shore signalling (R41). -/
def LinkState.signals : LinkState → Bool
  | .carrying | .draining => true
  | _ => false

/-- A link leaves its state for one that is not CARRYING: R40 if it carried, and the RGE told if it leaves CARRYING and
DRAINING (R40, R41). -/
def moveLink (l : LinkId) (state : LinkState) (s : State) : State :=
  let before := (s.link l).state
  let t := enterState l state s
  let t := if before = .carrying then carryingChanged t else t
  if before.signals && !state.signals then linkDeparted l t else t

/-! ### Selection (R34, R35) -/

/-- The better of the best so far and a link, by score, the earlier one among equals. -/
def State.better (s : State) (best : Option LinkId) (l : LinkId) : Option LinkId :=
  match best with
  | none => some l
  | some b => if (s.link b).score < (s.link l).score then some l else some b

/-- The eligible READY link of the highest score, the lowest index among equals (R34). -/
def State.bestReady (s : State) (kinds : KindSet) : Option LinkId :=
  (allLinks.filter (fun l => (s.link l).state == .ready && (s.link l).eligible kinds)).foldl s.better none

/-- Selection under a set of permitted kinds (R34, R35). -/
def selectUnder (kinds : KindSet) (s : State) : State :=
  if allLinks.any (fun l => (s.link l).state == .engaging) then s
  else
    match s.bestReady kinds with
    | none => s
    | some b =>
      match s.carryingLink with
      | none => enterState b .engaging s
      | some c =>
        if s.lkm.dwellTimer = none ∧ (s.link c).score + s.settings.swapMargin < (s.link b).score then
          enterState b .engaging s
        else s

/-- Selection in the current zone (R34). -/
def select (s : State) : State := selectUnder s.zone.kinds s

/-- A state change of a link followed by selection (R23). -/
def moveAndSelect (l : LinkId) (state : LinkState) (s : State) : State := select (moveLink l state s)

/-! ### STATUS (R24–R26) -/

/-- A STATUS recorded (R24). -/
def Link.record (r : StatusRecord) (x : Link) : Link :=
  { x with last := some { r with quality := min 100 r.quality, capacity := min x.cfg.ceiling r.capacity }, statusAge := 0 }

/-- The STATUS's carrier flag moves the link (R25). -/
def carrierStep (l : LinkId) (carrier : Bool) (s : State) : State :=
  match (s.link l).state, carrier with
  | .down, true => moveLink l .probing s
  | .probing, false | .ready, false | .engaging, false | .carrying, false => moveLink l .down s
  | _, _ => s

/-- The low quality count after a STATUS, and the move it brings at 3 (R26). -/
def qualityStep (l : LinkId) (s : State) : State :=
  let low := (s.link l).last.any (fun r => r.quality < s.settings.exitThreshold)
  let t := modLink l (fun x => { x with lowQuality := if low then satAdd 255 x.lowQuality 1 else 0 }) s
  if 3 ≤ (t.link l).lowQuality then
    match (t.link l).state with
    | .ready => moveLink l .probing t
    | .engaging | .carrying => moveLink l .draining t
    | _ => t
  else t

/-- The READY check of a PROBING link (R29). -/
def readyCheck (l : LinkId) (s : State) : State :=
  let x := s.link l
  if x.state = .probing ∧ 3 ≤ x.goodEchoes ∧ s.settings.entryThreshold ≤ x.quality then moveLink l .ready s else s

/-- A STATUS that moves the link to DOWN leaves its counts as the entry to DOWN sets them (R26, assumption 13). -/
def afterRecord (l : LinkId) (carrier : Bool) (s : State) : State :=
  let t := carrierStep l carrier s
  if (s.link l).state ≠ .down ∧ (t.link l).state = .down then t else readyCheck l (qualityStep l t)

/-- A STATUS from a link that is not OFF (R24). -/
def takeStatus (l : LinkId) (r : StatusRecord) (s : State) : State :=
  let t := afterRecord l r.carrier (modLink l (Link.record r) s)
  let u :=
    if (t.link l).state = .carrying ∧ (t.link l).capacity ≠ (s.link l).capacity then
      mailCapacity (t.link l).capacity t
    else t
  select u

/-- STATUS (R24); a link that is not there or OFF, and a carrier value not listed, are discarded (R19, R196). -/
def execStatus (link carrier quality latency capacity : Nat) (s : State) : Host.Outcome State Fault Refusal :=
  done
    (match linkAt link with
    | none => s
    | some l =>
      if (s.link l).state = .off ∨ 1 < carrier then s
      else takeStatus l ⟨carrier == 1, quality, latency % 65536, capacity⟩ s)

/-! ### Probing (R28–R30) -/

/-- Probe step 1: a probe outstanding is a miss (R28). -/
def Link.missed (x : Link) : Link :=
  if x.probeOut then { x with misses := x.misses + 1, goodEchoes := 0, probeOut := false } else x

/-- Whether a link in a state is probed (R28). -/
def LinkState.probed : LinkState → Bool
  | .probing | .ready | .engaging | .carrying => true
  | .off | .down | .draining | .fault => false

/-- A link's STATUS age raised, saturating; an OFF link's is not (R27). -/
def Link.aged (x : Link) : Link := if x.state = .off then x else { x with statusAge := satAdd 255 x.statusAge 1 }

/-- A new PROBE sent to a link that is probed (R28 step 3). -/
def sendProbe (l : LinkId) (s : State) : State :=
  if (s.link l).state.probed then
    let t := modLink l (fun x => { x with probeSeq := (x.probeSeq + 1) % 65536, probeOut := true }) s
    sendTerminal l (.probe (t.link l).probeSeq) t
  else s

/-- A probe expiry at one link (R28, R30). -/
def probeStep (l : LinkId) (s : State) : State :=
  let t := modLink l Link.missed s
  if (s.link l).probeOut ∧ 3 ≤ (t.link l).misses then moveLink l .fault t
  else sendProbe l (modLink l Link.aged t)

/-- The probe timer re-armed with the probe period (R28). -/
def armProbe (s : State) : State :=
  { s with lkm := { s.lkm with probeTimer := some (s.deadline s.settings.probePeriod) } }

/-- Selection, where some link's state differs from what it was (R34). -/
def selectIfMoved (before s : State) : State :=
  if allLinks.any (fun l => (before.link l).state != (s.link l).state) then select s else s

/-- PROBE_TIMER_EXPIRY (R27, R28), the links in rising order and selection once (assumptions 11, 12). -/
def execProbeTimerExpiry (s : State) : Host.Outcome State Fault Refusal :=
  done
    (atExpiry s.lkm.probeTimer (fun t => selectIfMoved t (forEach allLinks probeStep (armProbe t))) s)

/-- A good echo (R29). -/
def Link.echoed (x : Link) : Link := { x with probeOut := false, misses := 0, goodEchoes := satAdd 255 x.goodEchoes 1 }

/-- ECHO (R29); from a link that is not there or OFF, or with another sequence, it is discarded (R19). -/
def execEcho (link sequence : Nat) (s : State) : Host.Outcome State Fault Refusal :=
  done
    (match linkAt link with
    | none => s
    | some l =>
      if (s.link l).state ≠ .off ∧ (s.link l).probeOut ∧ (s.link l).probeSeq = sequence then
        selectIfMoved s (readyCheck l (modLink l Link.echoed s))
      else s)

/-- HOLD_OFF_EXPIRY: the link enters DOWN (R30). -/
def execHoldOffExpiry (link : Nat) (s : State) : Host.Outcome State Fault Refusal :=
  done
    (match linkAt link with
    | none => s
    | some l => atExpiry (s.link l).holdOffTimer (moveAndSelect l .down) s)

/-! ### Engagement and draining (R36, R37, R39) -/

/-- The link that was carrying drains when another enters CARRYING (R36 step 2). -/
def drainPrevious (c : Option LinkId) (s : State) : State :=
  match c with
  | none => s
  | some m => enterState m .draining s

/-- A completed engagement (R36). -/
def completeEngagement (l : LinkId) (s : State) : State :=
  let t := drainPrevious s.carryingLink (enterState l .carrying s)
  let u := { t with lkm := { t.lkm with dwellTimer := some (t.deadline t.settings.dwellTime) } }
  select (sendQueued (carryingChanged u))

/-- CARRIED (R36); in any state but ENGAGING it is discarded (R19). -/
def execCarried (link : Nat) (s : State) : Host.Outcome State Fault Refusal :=
  done
    (match linkAt link with
    | none => s
    | some l => if (s.link l).state = .engaging then completeEngagement l s else s)

/-- CARRY_TIMEOUT: the engagement ends in FAULT (R37). -/
def execCarryTimeout (link : Nat) (s : State) : Host.Outcome State Fault Refusal :=
  done
    (match linkAt link with
    | none => s
    | some l => atExpiry (s.link l).carryTimer (moveAndSelect l .fault) s)

/-- A link leaves DRAINING for READY or DOWN (R39). -/
def leaveDraining (l : LinkId) (s : State) : State :=
  let x := s.link l
  moveAndSelect l
    (if x.last.any StatusRecord.carrier ∧ s.settings.entryThreshold ≤ x.quality then .ready else .down) s

/-- RELEASED (R39); in any state but DRAINING it is discarded (R19). -/
def execReleased (link : Nat) (s : State) : Host.Outcome State Fault Refusal :=
  done
    (match linkAt link with
    | none => s
    | some l => if (s.link l).state = .draining then leaveDraining l s else s)

/-- DRAIN_TIMER_EXPIRY (R39). -/
def execDrainTimerExpiry (link : Nat) (s : State) : Host.Outcome State Fault Refusal :=
  done
    (match linkAt link with
    | none => s
    | some l => atExpiry (s.link l).drainTimer (leaveDraining l) s)

/-- DWELL_TIMER_EXPIRY: the timer stops and selection runs (R35). -/
def execDwellTimerExpiry (s : State) : Host.Outcome State Fault Refusal :=
  done
    (atExpiry s.lkm.dwellTimer (fun t => select { t with lkm := { t.lkm with dwellTimer := none } }) s)

/-- TERMINAL_FRAME_INVALID: a terminal frame that fails its checks is discarded without a count (R19, R196); a valid frame is
none of this row's business (assumption 28). -/
def execTerminalFrameInvalid (_payload : List Byte) (s : State) : Host.Outcome State Fault Refusal := done s

/-! ### The zone check (R38) -/

/-- The links in a state whose kind a set of permitted kinds lacks. -/
def State.unpermitted (s : State) (kinds : KindSet) (state : LinkState) : List LinkId :=
  allLinks.filter (fun l => (s.link l).state == state && !kinds.has (s.link l).cfg.kind)

/-- The LKM's reaction to a zone change (R38). -/
def zoneCheck (kinds : KindSet) (s : State) : State :=
  let drain (state : LinkState) (t : State) : State :=
    forEach (t.unpermitted kinds state) (fun l => moveLink l .draining) t
  selectUnder kinds (drain .carrying (drain .engaging s))

/-- LINK_ZONE_CHECK: the LKM takes the oldest zone change delivered to it (R38, assumptions 2, 17). -/
def execLinkZoneCheck (s : State) : Host.Outcome State Fault Refusal :=
  done
    (match s.mail.lkm with
    | [] => s
    | e :: rest => zoneCheck e.record.kinds { s with mail := { s.mail with lkm := rest } })

/-! ### Host requests (R20–R22) -/

/-- LINK_ENABLE's rule (R20). An unlisted kind at a link that is not OFF is answered BAD_ARG (DESIGN CHOICE, assumption 45). -/
def linkEnable (link kind : Nat) (s : State) : Answer :=
  match linkAt link, LinkKind.ofNumber kind with
  | some l, some k =>
    if (s.link l).state = .off then
      answer .ok
        (moveAndSelect l .down
          (modLink l (fun x => { x with cfg := { x.cfg with enabled := true, kind := k }, last := none, statusAge := 0 })
            s))
    else answer .state s
  | _, _ => answer .badArg s

/-- LINK_ENABLE (R20). -/
def execLinkEnable (tag link kind : Nat) (s : State) : Host.Outcome State Fault Refusal :=
  done (request tag 0x10 (be 1 link ++ be 1 kind) (linkEnable link kind) s)

/-- LINK_DISABLE's rule (R22). -/
def linkDisable (link : Nat) (s : State) : Answer :=
  match linkAt link with
  | none => answer .badArg s
  | some l =>
    if (s.link l).state = .off then answer .ok s
    else
      let t := if (s.link l).state.ordered then sendTerminal l .release s else s
      answer .ok
        (moveAndSelect l .off (modLink l (fun x => { x with cfg := { x.cfg with enabled := false } }) t))

/-- LINK_DISABLE (R22). -/
def execLinkDisable (tag link : Nat) (s : State) : Host.Outcome State Fault Refusal :=
  done (request tag 0x11 (be 1 link) (linkDisable link) s)

/-- A value brought to the nearest bound of a range. -/
def clamp (lo hi v : Nat) : Nat := max lo (min hi v)

/-- A link's ceiling and bonus set, a held capacity above the ceiling lowered to it (R21). -/
def Link.configured (ceiling bonus : Nat) (x : Link) : Link :=
  { x with
    cfg := { x.cfg with ceiling := ceiling, bonus := bonus }
    last := x.last.map (fun r => { r with capacity := min ceiling r.capacity }) }

/-- LINK_SET's rule (R21). -/
def linkSet (link ceiling bonus : Nat) (s : State) : Answer :=
  match linkAt link with
  | none => answer .badArg s
  | some l =>
    let t := modLink l (Link.configured (clamp 1 16383 ceiling) (clamp 0 50 bonus)) s
    let u :=
      if (t.link l).state = .carrying ∧ (t.link l).capacity ≠ (s.link l).capacity then
        mailCapacity (t.link l).capacity t
      else t
    answer (if clamp 1 16383 ceiling = ceiling ∧ clamp 0 50 bonus = bonus then .ok else .clamped) (select u)

/-- LINK_SET (R21). -/
def execLinkSet (tag link ceiling bonus : Nat) (s : State) : Host.Outcome State Fault Refusal :=
  done (request tag 0x12 (be 1 link ++ be 2 ceiling ++ be 1 bonus) (linkSet link ceiling bonus) s)

end Sys2Proof.Machine
end

