-- ==== Sys2Proof/Machine/Retune.lean ====
section
/-! DEFINITION. Retuning and silence (sections 5.4 and 5.5): the meanings of CELL_RETUNE_ORDER, RETUNED, RETUNE_TIMER_EXPIRY,
CELL_SILENCE_ORDER, SILENCED and SILENCE_TIMER_EXPIRY. -/

namespace Sys2Proof.Machine

/-- The cells of a zone change to a zone with service that R86 step 3 appends: in SERVING, DOZE or DEEP, under another identity
and not on the list. -/
def State.staleCells (s : State) (beacon : Option Beacon) : List CellId :=
  allCells.filter
    (fun c =>
      ((s.cell c).state == .serving || (s.cell c).state.dozing) && (s.cell c).beacon != beacon
        && !s.duc.retuneList.contains c)

/-- The retune list after steps 2 and 3 of R86. -/
def listStale (beacon : Option Beacon) (s : State) : State :=
  let t := setRetuneList (s.duc.retuneList.filter (fun c => (s.cell c).beacon != beacon)) s
  setRetuneList (t.duc.retuneList ++ t.staleCells beacon) t

/-- The DUC's reaction to a zone change to a zone with service (R86). The SILENT cells are resumed in rising cell order, each its
own entry to SERVING with its own recomputation (R51); the order is the model's (DESIGN CHOICE, assumption 39). -/
def retuneOrder (beacon : Option Beacon) (s : State) : State :=
  let resumed := forEach (allCells.filter (fun c => (s.cell c).state == .silent)) (resumeCell beacon) s
  dispatch (listStale beacon resumed)

/-- CELL_RETUNE_ORDER: the DUC takes the oldest zone change delivered to it, where that is to a zone with service (R86,
assumptions 2, 17). -/
def execCellRetuneOrder (s : State) : Host.Outcome State Fault Refusal :=
  done
    (match s.mail.duc with
    | [] => s
    | e :: rest =>
      if e.record.service then retuneOrder e.record.beacon { s with mail := { s.mail with duc := rest } } else s)

/-- A RETUNED at a RETUNING cell (R88). -/
def takeRetuned (c : CellId) (beacon : Beacon) (s : State) : State :=
  if (s.cell c).target = some beacon then
    let t :=
      enterServing
        (loadIdle c
          (modCell c
            (fun x => { x with state := .serving, beacon := some beacon, target := none, retuneTimer := none }) s))
    dispatch (if t.zone.beacon = some beacon then t else setRetuneList (t.duc.retuneList ++ [c]) t)
  else countBad c s

/-- RETUNED (R60, R88); an identity that is not packed digits is counted (R59, R196). -/
def execRetuned (unit : Nat) (beacon : Beacon) (s : State) : Host.Outcome State Fault Refusal :=
  done
    (match cellAt unit with
    | none => s
    | some c =>
      if beaconValid beacon then
        match (s.cell c).state with
        | .absent | .lost | .disabled => countBad c s
        | .retuning => takeRetuned c beacon s
        | .serving | .doze | .deep | .silencing | .silent => s
      else countBad c s)

/-- RETUNE_TIMER_EXPIRY: the cell is lost (R89). -/
def execRetuneTimerExpiry (cell : Nat) (s : State) : Host.Outcome State Fault Refusal :=
  done
    (match cellAt cell with
    | none => s
    | some c => atExpiry (s.cell c).retuneTimer (loseCell c) s)

/-- Whether a cell is silenced at a zone change (R91). -/
def CellState.silenced : CellState → Bool
  | .serving | .doze | .deep | .retuning => true
  | .absent | .silencing | .silent | .lost | .disabled => false

/-- One cell silenced: SILENCE, SILENCING, timers stopped, silence timer at 10 s, and the CAP's leaving if it was SERVING
(R91). -/
def silenceCell (c : CellId) (s : State) : State :=
  let t :=
    modCell c
      (fun x =>
        { x with
          state := .silencing
          target := none
          idleTimer := none
          deepTimer := none
          retuneTimer := none
          silenceTimer := some (s.deadline 10) })
      (sendDeck c .silence s)
  if (s.cell c).state = .serving then leaveServing c t else t

/-- The DUC's reaction to a zone change to a zone without service (R91). -/
def silenceOrder (s : State) : State :=
  forEach (allCells.filter (fun c => (s.cell c).state.silenced)) silenceCell (setRetuneList [] s)

/-- CELL_SILENCE_ORDER: the DUC takes the oldest zone change delivered to it, where that is to a zone without service (R91,
assumptions 2, 17). -/
def execCellSilenceOrder (s : State) : Host.Outcome State Fault Refusal :=
  done
    (match s.mail.duc with
    | [] => s
    | e :: rest => if e.record.service then s else silenceOrder { s with mail := { s.mail with duc := rest } })

/-- A SILENCED at a SILENCING cell: SILENT, the contexts' counts complete, and the cell resumed at once where the current zone
allows service (R92). -/
def takeSilenced (c : CellId) (s : State) : State :=
  let t := cellCountsComplete c (modCell c (fun x => { x with state := .silent, silenceTimer := none, beacon := none }) s)
  if t.zone.service then resumeCell t.zone.beacon c t else t

/-- SILENCED (R60, R92). -/
def execSilenced (unit : Nat) (s : State) : Host.Outcome State Fault Refusal :=
  done
    (match cellAt unit with
    | none => s
    | some c =>
      match (s.cell c).state with
      | .absent | .lost | .disabled => countBad c s
      | .silencing => takeSilenced c s
      | .serving | .doze | .deep | .retuning | .silent => s)

/-- SILENCE_TIMER_EXPIRY: CELL_SILENCE_FAULT, and the cell is lost (R92). -/
def execSilenceTimerExpiry (cell : Nat) (s : State) : Host.Outcome State Fault Refusal :=
  done
    (match cellAt cell with
    | none => s
    | some c => atExpiry (s.cell c).silenceTimer (fun t => loseCell c (setCond .cellSilenceFault t)) s)

end Sys2Proof.Machine
end

