-- ==== Sys2Proof/Machine/Rating.lean ====
section
/-! DEFINITION. The Rating Engine's commands (09_rating_and_quota.md) and the arrival of a unit's counts: the meanings of USAGE,
USAGE_END, QUOTA_GRANT and QUOTA_ATTENTION_READ. -/

namespace Sys2Proof.Machine

/-! ### USAGE (R155, R172) -/

/-- An entry for a context that is FREE or ATTACHING: counted, and USAGE_DISCARDED set (R155 step 1). -/
def discardEntry (s : State) : State :=
  setCond .usageDiscarded { s with rte := { s.rte with discarded := satAdd max32 s.rte.discarded 1 } }

/-- Held usage with an entry added (R172). -/
def Held.plus (h : Held) (up down : Nat) : Held :=
  { h with up := satAdd maxBytes h.up up, down := satAdd maxBytes h.down down }

/-- One entry of a USAGE frame tagged with an epoch (R155). -/
def takeEntry (tag : Nat) (e : UsageEntry) (s : State) : State :=
  match s.context e.ctx with
  | none => discardEntry s
  | some x =>
    if x.state = .attaching then discardEntry s
    else
      match x.held with
      | some h => setContext e.ctx { x with held := some (h.plus e.up e.down) } s
      | none => rateEntry e.ctx e.up e.down tag false s

/-- A usage entry as its fields hold it. -/
def wireEntry (e : UsageEntry) : UsageEntry := ⟨e.ctx % 65536, e.up % 4294967296, e.down % 4294967296⟩

/-- USAGE (R60, R155); a list that fails its checks is counted (R59, R196). -/
def execUsage (unit epoch : Nat) (entries : List UsageEntry) (s : State) : Host.Outcome State Fault Refusal :=
  done
    (match cellAt unit with
    | none => s
    | some c =>
      if usageCountValid entries.length && (s.cell c).state.joined then
        forEach (entries.map wireEntry) (takeEntry (epoch % 256)) s
      else countBad c s)

/-- USAGE_END (R60, R143). -/
def execUsageEnd (unit epoch : Nat) (s : State) : Host.Outcome State Fault Refusal :=
  done
    (match cellAt unit with
    | none => s
    | some c => if (s.cell c).state.joined then takeUsageEnd (epoch % 256) c s else countBad c s)

/-! ### QUOTA_GRANT (R164) -/

/-- The modes of QUOTA_GRANT (section 12.2). -/
inductive GrantMode where
  | add | set | unlimited | limited | mark
  deriving DecidableEq, Repr

/-- The mode a byte names. -/
def GrantMode.ofNumber : Nat → Option GrantMode
  | 0 => some .add
  | 1 => some .set
  | 2 => some .unlimited
  | 3 => some .limited
  | 4 => some .mark
  | _ => none

/-- The largest amount of a mode; none where the amount is ignored (R164). -/
def GrantMode.limit : GrantMode → Option Nat
  | .add | .set => some maxMoney
  | .mark => some 1000
  | .unlimited | .limited => none

/-- A quota whose balance a grant has set: last grant, low-notified flag and overrun follow (R164). -/
def Quota.granted (balance : Nat) (q : Quota) : Quota :=
  { q with balance := balance, lastGrant := balance, lowNotified := false, overrun := 0 }

/-- A quota after a grant (R164). -/
def Quota.after (mode : GrantMode) (amount : Nat) (q : Quota) : Quota :=
  match mode with
  | .add => q.granted (satAdd maxMoney q.balance amount)
  | .set => q.granted amount
  | .unlimited => { q with unlimited := true }
  | .limited => { q with unlimited := false }
  | .mark => { q with lowMark := amount }

/-- Whether a quota calls for the QUOTA restriction (R161, R164). -/
def Quota.exhausted (q : Quota) : Bool := !q.unlimited && q.balance == 0

/-- The reply to a QUOTA_GRANT (section 12.2). -/
def Quota.reply (overrunBefore : Nat) (q : Quota) : List Byte :=
  be 5 q.balance ++ yesNo q.unlimited ++ be 2 q.lowMark ++ be 5 q.lastGrant ++ be 5 overrunBefore

/-- A grant to a context, the QUOTA restriction brought into line (R164). -/
def grantQuota (k : Nat) (x : Context) (mode : GrantMode) (amount : Nat) (s : State) : Answer :=
  let q := x.quota.after mode amount
  ⟨restrict k (fun r => { r with quota := q.exhausted }) (setContext k { x with quota := q } s), .ok,
    q.reply x.quota.overrun⟩

/-- QUOTA_GRANT's rule (R164). Where two of R164's refusal cases hold at once, BAD_ARG is answered before NOT_FOUND and STATE (DESIGN
CHOICE, assumption 45). -/
def quotaGrant (k mode amount : Nat) (s : State) : Answer :=
  match GrantMode.ofNumber mode with
  | none => answer .badArg s
  | some m =>
    if 2047 < k ∨ m.limit.any (· < amount) then answer .badArg s
    else
      match s.context k with
      | none => answer .notFound s
      | some x => if x.state = .leaving then answer .state s else grantQuota k x m amount s

/-- QUOTA_GRANT (R164). -/
def execQuotaGrant (tag ctx mode amount : Nat) (s : State) : Host.Outcome State Fault Refusal :=
  done (request tag 0x40 (be 2 ctx ++ be 1 mode ++ be 8 amount) (quotaGrant ctx mode amount) s)

/-! ### QUOTA_ATTENTION_READ (R163) -/

/-- One entry of the reply (section 12.2). -/
def State.attentionBytes (s : State) (e : Nat × AttentionReason) : List Byte :=
  match s.context e.1 with
  | none => []
  | some x =>
    be 2 (e.1 + (if e.2 = .empty then 0x4000 else 0) + (if x.quota.unlimited then 0x8000 else 0))
      ++ be 8 x.sid.toNat ++ be 5 x.quota.balance

/-- QUOTA_ATTENTION_READ's rule (R163). -/
def attentionRead (s : State) : Answer :=
  let read := s.rte.attention.take 64
  ⟨{ s with rte := { s.rte with attention := s.rte.attention.drop 64 } }, .ok,
    be 1 read.length ++ read.flatMap s.attentionBytes⟩

/-- QUOTA_ATTENTION_READ (R163). -/
def execQuotaAttentionRead (tag : Nat) (s : State) : Host.Outcome State Fault Refusal :=
  done (request tag 0x41 [] attentionRead s)

end Sys2Proof.Machine
end

