-- ==== Sys2Proof/Machine/Tickets.lean ====
section
/-! DEFINITION. The Ticket Queue (10_usage_tickets.md): reading, releasing and serving the hold list, interval closes, held usage at
a restart with the Subscriber Table's restart that brings it about, and the meanings of TICKET_READ, TICKET_RELEASE and
INTERVAL_DEADLINE. -/

namespace Sys2Proof.Machine

/-! ### TICKET_READ (R173) -/

/-- TICKET_READ's rule (R173). -/
def ticketRead (max : Nat) (s : State) : Answer :=
  if 1 ≤ max ∧ max ≤ 16 then
    let read := s.tkq.tickets.take max
    ⟨s, .ok, be 2 s.tkq.tickets.length ++ be 1 read.length ++ read.flatMap Ticket.bytes⟩
  else answer .badArg s

/-- TICKET_READ (R173). -/
def execTicketRead (tag max : Nat) (s : State) : Host.Outcome State Fault Refusal :=
  done (request tag 0x50 (be 1 max) (ticketRead max) s)

/-! ### Serving the hold list (R165, R174) -/

/-- A context off the hold list. -/
def leaveHoldList (k : Nat) (s : State) : State :=
  { s with tkq := { s.tkq with holdList := s.tkq.holdList.filter (· != k) } }

/-- A context's held usage rated as one entry, and then absent (R165, R174 step 2). -/
def rateHeld (k : Nat) (room : Bool) (s : State) : State :=
  match (s.context k).bind Context.held with
  | none => s
  | some h => modContext k (fun x => { x with held := none }) (rateEntry k h.up h.down h.epoch room s)

/-- A LEAVING context whose counts are complete closed with its leave reason and freed (R107, R174 step 4). -/
def finishLeaving (k : Nat) (s : State) : State :=
  match (s.context k).bind Context.leaving with
  | none => s
  | some r => if r.complete then freeContext k (closeAccumulator k r.reason.close s) else s

/-- One context served (R174). -/
def serveContext (k : Nat) (s : State) : State :=
  finishLeaving k (restrict k (fun r => { r with backlog := false }) (rateHeld k true (leaveHoldList k s)))

/-- At most `n` contexts served from the head of the hold list while the gate has room (R174). -/
def serveWhile : Nat → State → State
  | 0, s => s
  | n + 1, s =>
    match s.tkq.holdList with
    | [] => s
    | k :: _ => if s.gateAdmits then serveWhile n (serveContext k s) else s

/-- The hold list served (R174). -/
def serveHoldList (s : State) : State := serveWhile s.tkq.holdList.length s

/-! ### TICKET_RELEASE (R174) -/

/-- TICKET_RELEASE's rule (R174); the reply counts the tickets left before the hold list is served (assumption 37). -/
def ticketRelease (seq : Nat) (s : State) : Answer :=
  match s.tkq.tickets.findIdx? (fun t => t.seq == seq) with
  | none => answer .notFound s
  | some i =>
    let t := { s with tkq := { s.tkq with tickets := s.tkq.tickets.drop (i + 1) } }
    ⟨serveHoldList t, .ok, be 2 (i + 1) ++ be 2 t.tkq.tickets.length⟩

/-- TICKET_RELEASE (R174). -/
def execTicketRelease (tag sequence : Nat) (s : State) : Host.Outcome State Fault Refusal :=
  done (request tag 0x51 (be 4 sequence) (ticketRelease sequence) s)

/-! ### Interval closes (R175) -/

/-- The interval deadline of a context: its accumulator's start plus the ticket interval; none while the interval is 0 or the
accumulator empty (R175). -/
def State.intervalDeadline (s : State) (k : Nat) : Timer :=
  if s.settings.interval = 0 then none
  else ((s.context k).bind Context.accumulator).map (fun a => a.start + 60000 * s.settings.interval)

/-- INTERVAL_DEADLINE of a context (R175). -/
def execIntervalDeadline (ctx : Nat) (s : State) : Host.Outcome State Fault Refusal :=
  done (atExpiry (s.intervalDeadline ctx) (closeAccumulator ctx .interval) s)

/-- At a change of the interval, every accumulator whose deadline is not in the future is closed, in rising order (R175). -/
def closeOverdue (s : State) : State :=
  forEach s.contextIndices
    (fun k t =>
      match t.intervalDeadline k with
      | none => t
      | some d => if d ≤ t.shipTime then closeAccumulator k .interval t else t) s

/-! ### Held usage at a restart (R180) and the restarts of the SBT and the TKQ (R118) -/

/-- Whether held usage would be rated into the context's open accumulator of its own key (R180). -/
def State.ratesIntoOwn (s : State) (x : Context) (h : Held) : Bool :=
  match x.accumulator with
  | none => false
  | some a => a.key == s.keyUnder x.homeGroup (s.epochFor h.epoch).1

/-- The restart write-off record with held usage counted, and TICKET_BACKLOG (R180). -/
def writeOff (h : Held) (s : State) : State :=
  let w := s.tkq.writeOff
  setCond .ticketBacklog
    { s with
      tkq :=
        { s.tkq with
          writeOff := ⟨satAdd max16 w.contexts 1, satAdd maxBytes w.up h.up, satAdd maxBytes w.down h.down⟩ } }

/-- Held usage dealt with at a restart: rated or written off, and then absent, the context off the hold list and BACKLOG gone
without a LIFT (R180). -/
def restartHeld (k : Nat) (s : State) : State :=
  match s.context k with
  | none => s
  | some x =>
    match x.held with
    | none => s
    | some h =>
      let t :=
        if s.gateAdmits then rateHeld k true s
        else if s.ratesIntoOwn x h then rateHeld k false s
        else writeOff h s
      modContext k
        (fun y => { y with held := none, restrictions := { y.restrictions with backlog := false } }) (leaveHoldList k t)

/-- One context at the SBT's restart (R118). -/
def restartContext (k : Nat) (s : State) : State :=
  freeContext k (closeAccumulator k .restart (restartHeld k (cancelRegistration k s)))

/-- The SBT's restart: every context in use, in rising order, released with RESTART and freed (R118). -/
def sbtRestartEffect (s : State) : State := forEach s.contextIndices restartContext s

end Sys2Proof.Machine
end

