-- ==== Sys2Proof/Machine/SettingsOps.lean ====
section
/-! DEFINITION. The settings (R190): identifiers, ranges and listed values, what a change brings about at once, and the meanings of
SETTINGS_SET and SETTINGS_GET. -/

namespace Sys2Proof.Machine

/-- The settings (R190); an event class and a deep-wake flag stand once for each event kind. -/
inductive Setting where
  | confirmThreshold | staleTime | entryThreshold | exitThreshold | probePeriod | drainLimit | dwellTime | swapMargin
  | reserve | heartbeatPeriod | cutTimeout | idleTime | deepTime | minAwake | doze
  | eventClass (kind : Fin 6) | eventWake (kind : Fin 6)
  | retuneWindow | cellLimit | graceTime | admissionQuota | regTimeout | shipId | interval | watermark
  deriving DecidableEq, Repr

/-- The setting an identifier names (section 12.2). -/
def Setting.ofNumber : Nat → Option Setting
  | 1 => some .confirmThreshold
  | 2 => some .staleTime
  | 3 => some .entryThreshold
  | 4 => some .exitThreshold
  | 5 => some .probePeriod
  | 6 => some .drainLimit
  | 7 => some .dwellTime
  | 8 => some .swapMargin
  | 9 => some .reserve
  | 10 => some .heartbeatPeriod
  | 11 => some .cutTimeout
  | 12 => some .idleTime
  | 13 => some .deepTime
  | 14 => some .minAwake
  | 15 => some .doze
  | 16 => some (.eventClass 0)
  | 17 => some (.eventClass 1)
  | 18 => some (.eventClass 2)
  | 19 => some (.eventClass 3)
  | 20 => some (.eventClass 4)
  | 21 => some (.eventClass 5)
  | 22 => some (.eventWake 0)
  | 23 => some (.eventWake 1)
  | 24 => some (.eventWake 2)
  | 25 => some (.eventWake 3)
  | 26 => some (.eventWake 4)
  | 27 => some (.eventWake 5)
  | 28 => some .retuneWindow
  | 29 => some .cellLimit
  | 30 => some .graceTime
  | 31 => some .admissionQuota
  | 32 => some .regTimeout
  | 33 => some .shipId
  | 34 => some .interval
  | 35 => some .watermark
  | _ => none

/-- The class of an event kind in one number (section 12.2). -/
def EventClass.number : EventClass → Nat
  | .primary => 0
  | .secondary => 1
  | .ignored => 2

/-- The class a number names; only 0 to 2 are ever stored. -/
def EventClass.ofNumber : Nat → EventClass
  | 0 => .primary
  | 1 => .secondary
  | _ => .ignored

/-- The number of a yes or no. -/
def flagNumber (b : Bool) : Nat := if b then 1 else 0

/-- The value of a setting. -/
def Settings.value (t : Settings) : Setting → Nat
  | .confirmThreshold => t.confirmThreshold
  | .staleTime => t.staleTime
  | .entryThreshold => t.entryThreshold
  | .exitThreshold => t.exitThreshold
  | .probePeriod => t.probePeriod
  | .drainLimit => t.drainLimit
  | .dwellTime => t.dwellTime
  | .swapMargin => t.swapMargin
  | .reserve => t.reserve
  | .heartbeatPeriod => t.heartbeatPeriod
  | .cutTimeout => t.cutTimeout
  | .idleTime => t.idleTime
  | .deepTime => t.deepTime
  | .minAwake => t.minAwake
  | .doze => flagNumber t.doze
  | .eventClass i => (t.events.get i).cls.number
  | .eventWake i => flagNumber (t.events.get i).deepWake
  | .retuneWindow => t.retuneWindow
  | .cellLimit => t.cellLimit
  | .graceTime => t.graceTime
  | .admissionQuota => flagNumber t.admissionUnlimited
  | .regTimeout => t.regTimeout
  | .shipId => t.shipId
  | .interval => t.interval
  | .watermark => t.watermark

/-- A setting given a value it admits. -/
def Settings.put (t : Settings) (v : Nat) : Setting → Settings
  | .confirmThreshold => { t with confirmThreshold := v }
  | .staleTime => { t with staleTime := v }
  | .entryThreshold => { t with entryThreshold := v }
  | .exitThreshold => { t with exitThreshold := v }
  | .probePeriod => { t with probePeriod := v }
  | .drainLimit => { t with drainLimit := v }
  | .dwellTime => { t with dwellTime := v }
  | .swapMargin => { t with swapMargin := v }
  | .reserve => { t with reserve := v }
  | .heartbeatPeriod => { t with heartbeatPeriod := v }
  | .cutTimeout => { t with cutTimeout := v }
  | .idleTime => { t with idleTime := v }
  | .deepTime => { t with deepTime := v }
  | .minAwake => { t with minAwake := v }
  | .doze => { t with doze := v == 1 }
  | .eventClass i =>
    { t with events := t.events.set i.val { t.events.get i with cls := EventClass.ofNumber v } i.isLt }
  | .eventWake i => { t with events := t.events.set i.val { t.events.get i with deepWake := v == 1 } i.isLt }
  | .retuneWindow => { t with retuneWindow := v }
  | .cellLimit => { t with cellLimit := v }
  | .graceTime => { t with graceTime := v }
  | .admissionQuota => { t with admissionUnlimited := v == 1 }
  | .regTimeout => { t with regTimeout := v }
  | .shipId => { t with shipId := v }
  | .interval => { t with interval := v }
  | .watermark => { t with watermark := v }

/-- The number of listed values of a listed-value setting, coded from 0; none for a numeric one (R78, R84, R116). -/
def Setting.listed : Setting → Option Nat
  | .doze => some 2
  | .eventClass _ => some 3
  | .eventWake _ => some 2
  | .admissionQuota => some 2
  | _ => none

/-- The range of a numeric setting (R8, R12, R31, R46, R68, R84, R90, R116, R135, R150, R176); a listed one has none of its
own. -/
def Setting.range : Setting → Nat × Nat
  | .confirmThreshold => (1, 8)
  | .staleTime => (10, 600)
  | .entryThreshold => (0, 100)
  | .exitThreshold => (0, 100)
  | .probePeriod => (1, 30)
  | .drainLimit => (1, 60)
  | .dwellTime => (30, 600)
  | .swapMargin => (0, 50)
  | .reserve => (1, 64)
  | .heartbeatPeriod => (1, 10)
  | .cutTimeout => (2, 30)
  | .idleTime => (10, 3600)
  | .deepTime => (60, 7200)
  | .minAwake => (1, 24)
  | .retuneWindow => (1, 24)
  | .cellLimit => (1, 256)
  | .graceTime => (5, 120)
  | .regTimeout => (2, 30)
  | .shipId => (0, max32)
  | .interval => (5, 240)
  | .watermark => (1, 2048)
  | .doze | .eventClass _ | .eventWake _ | .admissionQuota => (0, 0)

/-- The value a setting takes when a number is given, and the status: OK, CLAMPED, or HELD with the previous value (R176,
R190). -/
def Settings.judge (t : Settings) (x : Setting) (v : Nat) : Nat × Status :=
  match x.listed with
  | some n => if v < n then (v, .ok) else (t.value x, .held)
  | none =>
    if x = .interval ∧ v = 0 then (0, .ok)
    else
      let w := clamp x.range.1 x.range.2 v
      (w, if w = v then .ok else .clamped)

/-- What a setting's change to another value brings about at once: the pool (R46), the end of doze (R84), the retune window
(R90), the interval (R175) and the watermark (R177). -/
def settingChanged (x : Setting) (s : State) : State :=
  match x with
  | .reserve => takeCapacity s.cap.carried s
  | .doze => if s.settings.doze then s else wakeAll s
  | .retuneWindow => dispatch s
  | .interval => closeOverdue s
  | .watermark => if s.settings.watermark ≤ s.tkq.tickets.length then setCond .ticketWatermark s else s
  | _ => s

/-- A setting given a value, with what a change brings about. -/
def putSetting (x : Setting) (v : Nat) (s : State) : State :=
  let t := { s with settings := s.settings.put v x }
  if s.settings.value x = v then t else settingChanged x t

/-- SETTINGS_SET's rule (R190). -/
def settingsSet (setting value : Nat) (s : State) : Answer :=
  match Setting.ofNumber setting with
  | none => answer .badArg s
  | some x =>
    let j := s.settings.judge x value
    ⟨putSetting x j.1 s, j.2, be 4 j.1⟩

/-- SETTINGS_SET (R190). -/
def execSettingsSet (tag setting value : Nat) (s : State) : Host.Outcome State Fault Refusal :=
  done (request tag 0x60 (be 1 setting ++ be 4 value) (settingsSet setting value) s)

/-- SETTINGS_GET's rule (R190). -/
def settingsGet (setting : Nat) (s : State) : Answer :=
  match Setting.ofNumber setting with
  | none => answer .badArg s
  | some x => ⟨s, .ok, be 4 (s.settings.value x)⟩

/-- SETTINGS_GET (R190). -/
def execSettingsGet (tag setting : Nat) (s : State) : Host.Outcome State Fault Refusal :=
  done (request tag 0x61 (be 1 setting) (settingsGet setting) s)

end Sys2Proof.Machine
end

