-- ==== Sys2Proof/Machine/Subscribers.lean ====
section
/-! DEFINITION. The Subscriber Table (06_subscribers_and_attachment.md): attaching, reattaching, detaching and leaving, and the
meanings of ATTACH, DETACH, SUB_RELEASE, GRACE_DEADLINE and SERVICE_OFF_RELEASE. -/

namespace Sys2Proof.Machine

/-! ### Home groups (R99) and allocation (R103) -/

/-- Whether a pattern entry matches a SID: every compared position holds the same digit (R99). -/
def PatternEntry.matchesSid (p : PatternEntry) (sid : Sid) : Bool :=
  (List.range 15).all (fun i => !p.mask.getLsbD (14 - i) || sidDigit p.pattern i == sidDigit sid i)

/-- The home group of a SID: the first matching entry's, else 15 (R99). -/
def State.homeGroup (s : State) (sid : Sid) : Nat :=
  match (s.sbt.patterns.getD []).find? (fun p => p.matchesSid sid) with
  | none => 15
  | some p => p.group

/-- The quota of a new context (R103). -/
def Quota.initial (unlimited : Bool) : Quota := ⟨0, unlimited, 100, 0, false, 0⟩

/-- A context as allocation sets it (R103); its state is settled by the partner decision. -/
def State.newContext (s : State) (c : CellId) (sid : Sid) : Context where
  state := .attaching
  sid := sid
  homeGroup := s.homeGroup sid
  cell := c
  orphan := none
  restrictions := ⟨!s.settings.admissionUnlimited, false, false⟩
  registration := .none
  partner := none
  jurisdiction := none
  feeZone := none
  quota := Quota.initial s.settings.admissionUnlimited
  accumulator := none
  held := none
  leaving := none

/-- Whether a cell is full (R97). -/
def State.cellFull (s : State) (c : CellId) : Bool := decide (s.settings.cellLimit ≤ (s.cell c).attached)

/-- The lowest FREE index (R103). -/
def State.lowestFree (s : State) : Nat := Assoc.lowestFree s.sbt.contexts 0

/-- A cell's attached count raised by 1 (R97). -/
def raiseAttached (c : CellId) (s : State) : State := modCell c (fun x => { x with attached := x.attached + 1 }) s

/-- A cell's attached count lowered by 1 (R97). -/
def lowerAttached (c : CellId) (s : State) : State := modCell c (fun x => { x with attached := x.attached - 1 }) s

/-- What becomes of an allocated context under its partner entry (R104). -/
def partnerDecision (k : Nat) (c : CellId) (sid : Sid) (e : PartnerEntry) (s : State) : State :=
  match e.mode with
  | .forbidden => freeContext k (sendDeck c (.refuse .roamingNotAllowed sid) s)
  | .local => admitContext k (modContext k (fun x => { x with partner := some e.partner }) s)
  | .authorize => enqueue k 1 .attach (modContext k (fun x => { x with partner := some e.partner }) s)

/-- A new attach (R103, R104). -/
def newAttach (c : CellId) (sid : Sid) (s : State) : State :=
  if 2048 ≤ s.lowestFree then sendDeck c (.refuse .full sid) s
  else if s.cellFull c then sendDeck c (.refuse .cellFull sid) s
  else
    let x := s.newContext c sid
    partnerDecision s.lowestFree c sid (s.partnerEntry x.homeGroup)
      (raiseAttached c (setContext s.lowestFree x s))

/-! ### Reattach (R102) -/

/-- The context in use that holds a SID, with its index. -/
def State.holderOf (s : State) (sid : Sid) : Option (Nat × Context) := s.sbt.contexts.find? (fun e => e.2.sid == sid)

/-- A context moved to a cell, with the attached counts (R97, R102). -/
def moveContext (k : Nat) (x : Context) (c : CellId) (s : State) : State :=
  let t := setContext k { x with cell := c, orphan := none } s
  if c = x.cell then t else raiseAttached c (lowerAttached x.cell t)

/-- A reattach (R102). -/
def reattach (k : Nat) (x : Context) (c : CellId) (s : State) : State :=
  if x.state = .leaving then sendDeck c (.refuse .retryLater x.sid) s
  else if c ≠ x.cell ∧ s.cellFull c then sendDeck c (.refuse .cellFull x.sid) s
  else
    let t := moveContext k x c s
    if x.state = .active then sendAdmit k { x with cell := c } t else t

/-! ### ATTACH -/

/-- An ATTACH taken by the SBT (R101). -/
def attachAtSbt (c : CellId) (sid : Sid) (s : State) : State :=
  if !s.zone.service then sendDeck c (.refuse .noService sid) s
  else
    match (s.cell c).state with
    | .retuning | .silencing | .silent => sendDeck c (.refuse .retryLater sid) s
    | _ =>
      match s.holderOf sid with
      | some (k, x) => reattach k x c s
      | none => newAttach c sid s

/-- ATTACH (R60, R79, R101): counted from a cell that is not joined; else a primary deep-wake event at a cell in SERVING, DOZE or
DEEP, and then the SBT's. A SID that fails its check is counted (R59, R196). -/
def execAttach (unit : Nat) (sid : Sid) (s : State) : Host.Outcome State Fault Refusal :=
  done
    (match cellAt unit with
    | none => s
    | some c =>
      if sidValid sid && (s.cell c).state.joined then attachAtSbt c sid (takeEvent c .primary true s)
      else countBad c s)

/-! ### Leaving -/

/-- A DETACH taken by the SBT (R109). -/
def detachAtSbt (c : CellId) (sid : Sid) (k : Nat) (s : State) : State :=
  match s.context k with
  | none => s
  | some x => if x.state ≠ .leaving ∧ x.sid = sid ∧ x.cell = c then releaseContext k .detach s else s

/-- DETACH (R60, R109). -/
def execDetach (unit : Nat) (sid : Sid) (ctx : Nat) (s : State) : Host.Outcome State Fault Refusal :=
  done
    (match cellAt unit with
    | none => s
    | some c => if sidValid sid && (s.cell c).state.joined then detachAtSbt c sid ctx s else countBad c s)

/-- The unit told that a context is given up: DETACH for an ACTIVE one, REFUSE(RETRY_LATER) for an ATTACHING one (R110,
R112). -/
def tellReleased (k : Nat) (x : Context) (s : State) : State :=
  if x.state = .active then sendDeck x.cell (.detach x.sid k) s else sendDeck x.cell (.refuse .retryLater x.sid) s

/-- SUB_RELEASE's rule (R110). -/
def subRelease (k : Nat) (s : State) : Answer :=
  if 2047 < k then answer .badArg s
  else
    match s.context k with
    | none => answer .notFound s
    | some x =>
      if x.state = .leaving then answer .state s else answer .ok (releaseContext k .host (tellReleased k x s))

/-- SUB_RELEASE (R110). -/
def execSubRelease (tag ctx : Nat) (s : State) : Host.Outcome State Fault Refusal :=
  done (request tag 0x32 (be 2 ctx) (subRelease ctx) s)

/-- An orphan whose grace has run out (R112). -/
def graceOver (k : Nat) (s : State) : State :=
  match s.context k with
  | none => s
  | some x => releaseContext k .cellLost (tellReleased k x (setContext k { x with orphan := none } s))

/-- GRACE_DEADLINE of a context (R112); nothing where it is no orphan. -/
def execGraceDeadline (ctx : Nat) (s : State) : Host.Outcome State Fault Refusal :=
  done (atExpiry ((s.context ctx).bind Context.orphan) (graceOver ctx) s)

/-! ### Waters without service (R113) -/

/-- Whether a cell in a state reports no more counts (R114). -/
def CellState.quiet : CellState → Bool
  | .silent | .lost | .disabled | .absent => true
  | .serving | .doze | .deep | .retuning | .silencing => false

/-- One context at a zone change to a zone without service (R113). -/
def serviceOffContext (k : Nat) (s : State) : State :=
  match s.context k with
  | none => s
  | some x =>
    match x.state with
    | .leaving => s
    | .attaching => freeContext k (cancelRegistration k (sendDeck x.cell (.refuse .noService x.sid) s))
    | .active =>
      let t :=
        modContext k (fun y => { y with state := .leaving, orphan := none, leaving := some ⟨.serviceOff, false⟩ })
          (cancelRegistration k s)
      if (s.cell x.cell).state.quiet then completeCounts k t else t

/-- SERVICE_OFF_RELEASE: the SBT takes the oldest zone change to a zone without service delivered to it (R113, assumption 2). -/
def execServiceOffRelease (s : State) : Host.Outcome State Fault Refusal :=
  done
    (match s.mail.sbt with
    | 0 => s
    | n + 1 => forEach s.contextIndices serviceOffContext { s with mail := { s.mail with sbt := n } })

end Sys2Proof.Machine
end

