-- ==== Sys2Proof/Machine/Queries.lean ====
section
/-! DEFINITION. The queries: the reply bodies of ZONE_QUERY (R16), LINK_QUERY (R42), CELL_QUERY (R74), SUB_QUERY and SUB_FIND (R117),
STATUS_READ and IDENTIFY (R194), in the encodings of section 12.1. Where that section leaves a layout open, assumption 10
says what is chosen. -/

namespace Sys2Proof.Machine

/-! ### Common items -/

/-- A list: its number of items in one byte, and the items. -/
def listBytes {α : Type} (encode : α → List Byte) (items : List α) : List Byte :=
  be 1 items.length ++ items.flatMap encode

/-- A ship time. -/
def timeBytes (t : Nat) : List Byte := be 8 t

/-- A place in a list, counted from 0, in two bytes; absent where the item is not in the list. -/
def placeBytes (place : Option Nat) : List Byte := presence (be 2) place

/-! ### ZONE_QUERY (R16) -/

/-- A zone kind by its code. -/
def ZoneKind.number : ZoneKind → Nat
  | .port => 0
  | .territorial => 1
  | .international => 2

/-- A rectangle, as in the zone table format. -/
def Rect.bytes (r : Rect) : List Byte :=
  be 4 (word32 r.south) ++ be 4 (word32 r.north) ++ be 4 (word32 r.west) ++ be 4 (word32 r.east)

/-- The fields of a zone record in the order of R1. -/
def ZoneRecord.bytes (z : ZoneRecord) : List Byte :=
  be 1 z.kind.number ++ be 2 z.jurisdiction ++ be 1 z.priority ++ yesNo z.service ++ be 1 z.kinds.number
    ++ beaconBytes z.beacon ++ listBytes Rect.bytes z.rects

/-- A position state by its code. -/
def PosState.number : PosState → Nat
  | .none => 0
  | .fresh => 1
  | .stale => 2

/-- A change cause by its code. -/
def ChangeCause.number : ChangeCause → Nat
  | .fix => 0
  | .force => 1
  | .table => 2

/-- A last fix record in the order of R6. -/
def FixRecord.bytes (f : FixRecord) : List Byte :=
  be 4 (word32 f.lat) ++ be 4 (word32 f.lon) ++ be 1 f.quality ++ be 4 f.fixTime ++ timeBytes f.arrival ++ be 1 f.named

/-- A last change record in the order of R9. -/
def ChangeRecord.bytes (c : ChangeRecord) : List Byte :=
  be 1 c.cause.number ++ be 1 c.previous ++ be 1 c.new ++ timeBytes c.time

/-- The PZU's state as ZONE_QUERY without an argument reports it (R16). -/
def State.zoneStatus (s : State) : List Byte :=
  be 1 s.pzu.current ++ s.zone.bytes
    ++ presence (fun t => be 1 t.defaultZone ++ be 1 t.zones.length) s.pzu.table
    ++ presence (be 1) s.pzu.forced ++ presence (be 1) s.pzu.candidate
    ++ be 1 s.pzu.confirmCount ++ be 1 s.settings.confirmThreshold ++ be 2 s.settings.staleTime
    ++ be 1 s.pzu.position.number ++ presence FixRecord.bytes s.pzu.lastFix
    ++ presence ChangeRecord.bytes s.pzu.lastChange

/-- ZONE_QUERY's rule (R16). -/
def zoneQuery (zone : Option Nat) (s : State) : Answer :=
  match zone with
  | none => ⟨s, .ok, s.zoneStatus⟩
  | some z =>
    match s.zoneRecord z with
    | none => answer .notFound s
    | some r => ⟨s, .ok, r.bytes⟩

/-- ZONE_QUERY (R16). -/
def execZoneQuery (tag : Nat) (zone : Option Nat) (s : State) : Host.Outcome State Fault Refusal :=
  done (request tag 0x04 (match zone with | none => [] | some z => be 1 z) (zoneQuery zone) s)

/-! ### LINK_QUERY (R42) -/

/-- A link state by its code. -/
def LinkState.number : LinkState → Nat
  | .off => 0
  | .down => 1
  | .probing => 2
  | .ready => 3
  | .engaging => 4
  | .carrying => 5
  | .draining => 6
  | .fault => 7

/-- A recorded STATUS. -/
def StatusRecord.bytes (r : StatusRecord) : List Byte :=
  yesNo r.carrier ++ be 1 r.quality ++ be 2 r.latency ++ be 2 r.capacity

/-- The fields of a link record in the order of R18, its timers apart. -/
def Link.bytes (x : Link) : List Byte :=
  yesNo x.cfg.enabled ++ be 1 x.cfg.kind.number ++ be 2 x.cfg.ceiling ++ be 1 x.cfg.bonus ++ be 1 x.state.number
    ++ presence StatusRecord.bytes x.last ++ be 1 x.statusAge ++ be 2 x.probeSeq ++ yesNo x.probeOut
    ++ be 1 x.goodEchoes ++ be 1 x.misses ++ be 1 x.lowQuality

/-- The remaining times of a link's timers. -/
def Link.timerBytes (now : Nat) (x : Link) : List Byte :=
  remaining now x.carryTimer ++ remaining now x.drainTimer ++ remaining now x.holdOffTimer

/-- A link's index, or none. -/
def linkBytes (l : Option LinkId) : List Byte := presence (fun i => be 1 i.val) l

/-- The body of LINK_QUERY's reply (R42). -/
def State.linkStatus (s : State) (l : LinkId) : List Byte :=
  let x := s.link l
  x.bytes ++ be 1 x.quality ++ be 1 x.score ++ yesNo (x.eligible s.zone.kinds) ++ x.timerBytes s.shipTime
    ++ linkBytes s.carryingLink ++ linkBytes (allLinks.find? (fun l => (s.link l).state == .engaging))
    ++ yesNo s.lkm.dwellTimer.isSome ++ remaining s.shipTime s.lkm.dwellTimer ++ be 1 (classNumber s.lkm.classHanded)

/-- LINK_QUERY's rule (R42). -/
def linkQuery (link : Nat) (s : State) : Answer :=
  match linkAt link with
  | none => answer .badArg s
  | some l => ⟨s, .ok, s.linkStatus l⟩

/-- LINK_QUERY (R42). -/
def execLinkQuery (tag link : Nat) (s : State) : Host.Outcome State Fault Refusal :=
  done (request tag 0x13 (be 1 link) (linkQuery link) s)

/-! ### CELL_QUERY (R74, R85) -/

/-- The cell states in the order of R57. -/
def allCellStates : List CellState :=
  [.absent, .serving, .doze, .deep, .retuning, .silencing, .silent, .lost, .disabled]

/-- A cell state by its code. -/
def CellState.number (x : CellState) : Nat := allCellStates.idxOf x

/-- The fields of a cell record in the order of R57, timers as remaining times. -/
def Cell.bytes (now : Nat) (x : Cell) : List Byte :=
  be 1 x.state.number ++ be 4 x.serial ++ be 1 (if x.phase = .a then 0 else 1) ++ yesNo x.good ++ be 1 x.missed
    ++ remaining now x.heartbeatTimer ++ be 1 (if x.power = .mains then 0 else 1) ++ be 2 x.demand ++ be 2 x.grant
    ++ be 2 x.attached ++ beaconBytes x.beacon ++ remaining now x.idleTimer ++ remaining now x.deepTimer
    ++ remaining now x.retuneTimer ++ remaining now x.silenceTimer ++ be 2 x.badFrames

/-- The body of CELL_QUERY's reply for one cell: its record, place in the retune list, target and the held epochs that wait
for it (R74, R85). -/
def State.cellStatus (s : State) (c : CellId) : List Byte :=
  let x := s.cell c
  x.bytes s.shipTime ++ presence (be 1) (s.duc.retuneList.idxOf? c) ++ beaconBytes x.target
    ++ listBytes (fun e => be 1 e.number) (s.epc.ring.filter (fun e => e.pendingSet.contains c))

/-- A lamp pattern by its code (section 12.2). -/
def Pattern.number : Pattern → Nat
  | .off => 0
  | .slow => 1
  | .fast => 2
  | .steady => 3

/-- The summary of all cells (R74, R94). -/
def State.cellSummary (s : State) : List Byte :=
  allCells.flatMap
      (fun c => be 1 (s.cell c).state.number ++ be 2 (s.cell c).grant ++ be 2 (s.cell c).attached)
    ++ allCellStates.flatMap (fun st => be 1 (allCells.filter (fun c => (s.cell c).state == st)).length)
    ++ be 1 s.settings.heartbeatPeriod ++ yesNo s.duc.lamp.forced.isSome ++ be 1 s.duc.lamp.pattern.number

/-- CELL_QUERY's rule (R74). -/
def cellQuery (cell clear : Nat) (s : State) : Answer :=
  if cell = 255 then ⟨s, .ok, s.cellSummary⟩
  else
    match cellAt cell with
    | none => answer .badArg s
    | some c =>
      if clear = 0 then ⟨s, .ok, s.cellStatus c⟩
      else if clear = 1 then ⟨modCell c (fun x => { x with badFrames := 0 }) s, .ok, s.cellStatus c⟩
      else answer .badArg s

/-- CELL_QUERY (R74). -/
def execCellQuery (tag cell clear : Nat) (s : State) : Host.Outcome State Fault Refusal :=
  done (request tag 0x22 (be 1 cell ++ be 1 clear) (cellQuery cell clear) s)

/-! ### SUB_QUERY and SUB_FIND (R117) -/

/-- A context state by its code (section 12.2); 0 is FREE. -/
def CtxState.number : CtxState → Nat
  | .attaching => 1
  | .active => 2
  | .leaving => 3

/-- An attempt and a purpose. -/
def attemptBytes (attempt : Nat) (purpose : Purpose) : List Byte :=
  be 1 attempt ++ be 1 (if purpose = .attach then 0 else 1)

/-- The registration of a context: its state by code, then inline and without presence bytes the items of R136 for that state, the
place in the queue, attempt and purpose of a QUEUED one, and the attempt, purpose, correlation number, link and remaining time
of a SENT one (R96, R136; the layout is assumption 10). -/
def State.registrationBytes (s : State) (k : Nat) (r : Registration) : List Byte :=
  match r with
  | .none => be 1 0
  | .queued attempt purpose => be 1 1 ++ be 2 (s.rge.queue.idxOf k) ++ attemptBytes attempt purpose
  | .sent attempt purpose =>
    be 1 2 ++ attemptBytes attempt purpose
      ++ (match s.sentEntry k with
        | none => []
        | some o => be 2 o.correlation ++ be 1 o.link.val ++ remaining s.shipTime (some o.deadline))

/-- The six fields of a quota, in the order of R161. -/
def Quota.bytes (q : Quota) : List Byte :=
  be 5 q.balance ++ yesNo q.unlimited ++ be 2 q.lowMark ++ be 5 q.lastGrant ++ yesNo q.lowNotified ++ be 5 q.overrun

/-- A context's place and reason on the attention list (R166). -/
def State.attentionPlace (s : State) (k : Nat) : List Byte :=
  match s.rte.attention.findIdx? (fun e => e.1 == k), s.rte.attention.find? (fun e => e.1 == k) with
  | some i, some e => be 1 1 ++ be 2 i ++ be 1 (if e.2 = .low then 0 else 1)
  | _, _ => be 1 0

/-- A rating key, in the order of R153. -/
def Key.bytes (k : Key) : List Byte :=
  be 1 k.zone ++ partnerBytes k.partner ++ be 1 k.tariff ++ be 1 k.generation ++ be 1 (classNumber k.linkClass)

/-- The fields of an open accumulator, in the order of R154; price, fee and charge are Money (section 12.1). -/
def Accumulator.bytes (a : Accumulator) : List Byte :=
  a.key.bytes ++ be 5 a.values.price ++ be 4 a.values.block ++ be 5 a.values.fee ++ be 2 a.values.multiplier
    ++ timeBytes a.start ++ be 1 a.firstEpoch ++ be 1 a.lastEpoch ++ be 6 a.up ++ be 6 a.down ++ be 6 a.blocks
    ++ be 5 a.charge ++ be 4 a.resBytes ++ be 2 a.resThousandths ++ yesNo a.feeApplied ++ yesNo a.late
    ++ yesNo a.saturated

/-- A leave reason by its code. -/
def LeaveReason.number : LeaveReason → Nat
  | .detach => 0
  | .cellLost => 1
  | .host => 2
  | .serviceOff => 3

/-- The body of SUB_QUERY's reply for a context in use (R117, R136, R166, R178), in the order of R96, the attention list entry of R166
right behind the quota (DESIGN CHOICE, assumption 47: R166 has the quota before the fee zone). -/
def State.contextBytes (s : State) (k : Nat) (x : Context) : List Byte :=
  be 1 x.state.number ++ be 8 x.sid.toNat ++ be 1 x.homeGroup ++ be 1 x.cell.val
    ++ presence (fun d => remaining s.shipTime (some d)) x.orphan ++ be 1 x.restrictions.number
    ++ s.registrationBytes k x.registration ++ partnerBytes x.partner ++ presence (be 2) x.jurisdiction
    ++ presence (be 1) x.feeZone ++ x.quota.bytes ++ s.attentionPlace k
    ++ presence (fun a => a.bytes ++ remaining s.shipTime (s.intervalDeadline k)) x.accumulator
    ++ presence (fun h => be 6 h.up ++ be 6 h.down ++ be 1 h.epoch ++ be 2 (s.tkq.holdList.idxOf k)) x.held
    ++ presence (fun r => be 1 r.reason.number ++ yesNo r.complete) x.leaving

/-- The number of contexts in use in a state. -/
def State.countIn (s : State) (st : CtxState) : Nat := (s.sbt.contexts.filter (fun e => e.2.state == st)).length

/-- The summary of SUB_QUERY (R117). -/
def State.contextSummary (s : State) : List Byte :=
  be 2 (2048 - s.sbt.contexts.length) ++ be 2 (s.countIn .attaching) ++ be 2 (s.countIn .active)
    ++ be 2 (s.countIn .leaving) ++ be 2 (s.sbt.contexts.filter (fun e => e.2.orphan.isSome)).length
    ++ presence (be 2) (if s.lowestFree < 2048 then some s.lowestFree else none)
    ++ be 1 (s.sbt.patterns.getD []).length ++ be 2 s.settings.cellLimit ++ be 1 s.settings.graceTime
    ++ yesNo s.settings.admissionUnlimited

/-- SUB_QUERY's rule (R117). -/
def subQuery (k : Nat) (s : State) : Answer :=
  if k = 65535 then ⟨s, .ok, s.contextSummary⟩
  else if 2047 < k then answer .badArg s
  else
    match s.context k with
    | none => ⟨s, .ok, be 1 0⟩
    | some x => ⟨s, .ok, s.contextBytes k x⟩

/-- SUB_QUERY (R117). -/
def execSubQuery (tag ctx : Nat) (s : State) : Host.Outcome State Fault Refusal :=
  done (request tag 0x30 (be 2 ctx) (subQuery ctx) s)

/-- SUB_FIND's rule (R117). -/
def subFind (sid : Sid) (s : State) : Answer :=
  match s.holderOf sid with
  | none => answer .notFound s
  | some (k, x) => ⟨s, .ok, be 2 k ++ be 1 x.state.number⟩

/-- SUB_FIND (R117). -/
def execSubFind (tag : Nat) (sid : Sid) (s : State) : Host.Outcome State Fault Refusal :=
  done (request tag 0x31 (be 8 sid.toNat) (subFind sid) s)

/-! ### STATUS_READ (R55, R136, R150, R166, R178, R194) -/

/-- A table kind by its code (section 12.2). -/
def TableKind.number : TableKind → Nat
  | .zone => 0
  | .partner => 1
  | .tariff => 2
  | .homeGroup => 3

/-- A store state by its code (section 12.2). -/
def StoreState.number : StoreState → Nat
  | .ok => 0
  | .invalid => 1
  | .error => 2
  | .busy => 3

/-- The load state: IDLE, or OPEN with kind, total length and offsets written (R194). The state's byte, 0 IDLE or 1 OPEN, stands for
the presence byte of the three items (DESIGN CHOICE, assumption 10). -/
def loadBytes : Option Load → List Byte
  | none => be 1 0
  | some l => be 1 1 ++ be 1 l.kind.number ++ be 2 l.total ++ be 2 l.cells.length

/-- The status of the CTP (R194). The inbound count counts the STATUS_READ itself, and the outbound count not its reply (DESIGN CHOICE,
assumption 48). -/
def State.ctpStatus (s : State) : List Byte :=
  let p := s.ctp
  be 2 p.conditions.toNat ++ be 2 p.mask.toNat ++ yesNo p.noticePending ++ be 1 (if p.locked then 0 else 1)
    ++ yesNo p.code.isSome ++ be 1 p.mismatches ++ remaining s.shipTime p.lockoutTimer ++ loadBytes p.load
    ++ be 1 s.cfs.state.number ++ presence (fun b => be 4 b.second ++ timeBytes b.shipTime) p.utc
    ++ timeBytes s.shipTime ++ be 2 p.gapCount ++ be 2 p.lengthCount ++ be 2 p.crcCount ++ be 2 p.kindCount
    ++ be 2 p.overrunCount ++ be 1 p.inbound.length ++ be 1 p.outbound.length

/-- The sum of all grants (R55). -/
def State.grantSum (s : State) : Nat := (allCells.map fun c => (s.cell c).grant).sum

/-- The status of the CAP (R55). -/
def State.capStatus (s : State) : List Byte :=
  be 2 s.cap.carried ++ be 1 s.settings.reserve ++ be 2 s.cap.pool ++ be 2 s.grantSum ++ be 1 s.cap.pointer

/-- An open reason by its code (R138). -/
def openReasonNumber : OpenReason → Nat
  | .powerOn => 0
  | .zone => 1
  | .linkClass => 2
  | .tariffLoad => 3
  | .partnerLoad => 4
  | .restart => 5

/-- A cut state by its code. -/
def CutState.number : CutState → Nat
  | .none => 0
  | .waiting => 1
  | .complete => 2
  | .timedOut => 3

/-- The fields of an epoch in the order of R138. -/
def Epoch.bytes (now : Nat) (e : Epoch) : List Byte :=
  be 1 e.number ++ be 1 (openReasonNumber e.reason) ++ be 1 e.zone ++ be 1 (classNumber e.linkClass)
    ++ be 1 e.tariffGen ++ be 1 e.partnerGen ++ timeBytes e.opened ++ cellSetBytes e.pendingSet ++ be 1 e.cut.number
    ++ remaining now e.cutTimer

/-- The status of the EPC (R150), the generation numbers in the order of their commits, oldest first (DESIGN CHOICE,
assumption 46). -/
def State.epcStatus (s : State) : List Byte :=
  listBytes (Epoch.bytes s.shipTime) s.epc.ring ++ listBytes (fun g => be 1 g.number) s.rte.generations
    ++ listBytes (fun g => be 1 g.number) s.rge.generations ++ be 2 s.epc.retiredComplete ++ be 2 s.epc.retiredTimeout
    ++ be 2 s.epc.retiredForced ++ be 1 s.settings.cutTimeout

/-- The status of the RGE (R136). -/
def State.rgeStatus (s : State) : List Byte :=
  be 2 s.rge.queue.length ++ be 1 s.rge.outstanding.length
    ++ be 1 (s.rge.outstanding.filter Outstanding.abandoned).length ++ be 2 s.rge.nextCorrelation
    ++ be 2 s.rge.unmatched ++ be 1 s.newestPartner.number

/-- A tariff in the tariff table format. -/
def Tariff.bytes (t : Tariff) : List Byte := be 4 t.price ++ be 4 t.block ++ be 4 t.fee

/-- A tariff generation: its number, tariffs and multipliers (R166). -/
def TariffGen.bytes (g : TariffGen) : List Byte :=
  be 1 g.number ++ g.values.tariffs.toList.flatMap Tariff.bytes ++ g.values.multipliers.toList.flatMap (be 2)

/-- The status of the RTE (R166), the tariff generations in the order of their commits, oldest first (DESIGN CHOICE,
assumption 46). -/
def State.rteStatus (s : State) : List Byte :=
  be 2 s.openCount ++ be 2 s.rte.attention.length ++ be 4 s.rte.discarded ++ be 4 s.rte.lateEntries
    ++ listBytes TariffGen.bytes s.rte.generations

/-- The sequence numbers of the oldest and newest tickets, where there are any (R178). -/
def State.sequenceRange (s : State) : List Byte :=
  match s.tkq.tickets.head?, s.tkq.tickets.getLast? with
  | some a, some b => be 1 1 ++ be 4 a.seq ++ be 4 b.seq
  | _, _ => be 1 0

/-- The status of the TKQ (R178). -/
def State.tkqStatus (s : State) : List Byte :=
  be 2 s.tkq.tickets.length ++ s.sequenceRange ++ be 4 s.tkq.nextSeq ++ be 2 s.openCount ++ be 2 s.gateCount
    ++ be 2 s.tkq.holdList.length ++ be 2 s.tkq.refusals ++ be 2 s.settings.watermark ++ be 1 s.settings.interval
    ++ be 2 s.tkq.writeOff.contexts ++ be 6 s.tkq.writeOff.up ++ be 6 s.tkq.writeOff.down

/-- STATUS_READ's rule (R194). -/
def statusRead (block : Nat) (s : State) : Answer :=
  match block with
  | 0 => ⟨s, .ok, s.ctpStatus⟩
  | 1 => ⟨s, .ok, s.capStatus⟩
  | 2 => ⟨s, .ok, s.epcStatus⟩
  | 3 => ⟨s, .ok, s.rgeStatus⟩
  | 4 => ⟨s, .ok, s.rteStatus⟩
  | 5 => ⟨s, .ok, s.tkqStatus⟩
  | _ => answer .badArg s

/-- STATUS_READ (R194). -/
def execStatusRead (tag block : Nat) (s : State) : Host.Outcome State Fault Refusal :=
  done (request tag 0x65 (be 1 block) (statusRead block) s)

/-! ### IDENTIFY (R194) -/

/-- The eight printable characters of the version string: free values (assumption 9). -/
def versionBytes : List Byte := (List.range 8).flatMap (fun i => be 1 (32 + (Config.versionChar i).val))

/-- IDENTIFY's rule (R194). -/
def identify (s : State) : Answer := ⟨s, .ok, be 2 640 ++ versionBytes ++ be 1 s.cfs.state.number⟩

/-- IDENTIFY (R194). -/
def execIdentify (tag : Nat) (s : State) : Host.Outcome State Fault Refusal := done (request tag 0x6D [] identify s)

end Sys2Proof.Machine
end

