-- ==== Sys2Proof/Machine/Resets.lean ====
section
/-! DEFINITION. The configuration store, hardware reset and RESTART (sections 11.6 and 11.7): the meanings of STORE_SAVE,
STORE_WRITE_COMPLETION, HARDWARE_RESET, RESTART and the seven blocks' restarts. -/

namespace Sys2Proof.Machine

/-! ### The configuration store (R73, R192) -/

/-- The snapshot of what the store keeps (R192). -/
def State.snapshot (s : State) : Snapshot where
  zones := s.pzu.table
  partners := s.newestPartner.table
  tariffs := s.newestTariff.table
  patterns := s.sbt.patterns
  settings := s.settings
  code := s.ctp.code
  links := s.lkm.links.map Link.cfg
  disabled := s.duc.cells.map (fun x => x.state == .disabled)

/-- STORE_SAVE's rule (R192). -/
def storeSave (s : State) : Answer :=
  if s.cfs.state = .busy then answer .busy s
  else answer .ok { s with cfs := { s.cfs with state := .busy, writing := some s.snapshot } }

/-- STORE_SAVE (R192). -/
def execStoreSave (tag : Nat) (s : State) : Host.Outcome State Fault Refusal := done (request tag 0x6C [] storeSave s)

/-- The end of a write: OK and the snapshot is the copy, or ERROR and the copy is invalid; STORE_EVENT either way (R192). -/
def completeWrite (success : Bool) (w : Snapshot) (s : State) : State :=
  setCond .storeEvent
    { s with
      cfs := if success then ⟨.ok, some w, none⟩ else ⟨.error, none, none⟩ }

/-- STORE_WRITE_COMPLETION (R192); nothing where no write is under way (assumption 43). -/
def execStoreWriteCompletion (success : Bool) (s : State) : Host.Outcome State Fault Refusal :=
  done
    (match s.cfs.writing with
    | none => s
    | some w => completeWrite success w s)

/-! ### Hardware reset (R17, R43, R56, R75, R95, R118, R137, R150, R167, R179, R182, R187, R193) -/

/-- The machine right after a hardware reset whose start-up read found a valid copy, with the commands still waiting. -/
def State.fromStore (c : Snapshot) (waiting : List Instr) : State :=
  let zone : ZoneId :=
    match c.zones with
    | none => 255
    | some t => t.defaultZone
  { State.reset with
    settings := c.settings
    ctp := { Ctp.start with code := c.code, locked := c.code.isSome }
    pzu :=
      { State.reset.pzu with
        table := c.zones
        current := zone
        staleTimer := some (1000 * c.settings.staleTime) }
    epc := { State.reset.epc with ring := [Epoch.first zone] }
    lkm :=
      { State.reset.lkm with
        links := c.links.map Link.start
        probeTimer := some (1000 * c.settings.probePeriod) }
    duc := { State.reset.duc with cells := c.disabled.map Cell.start }
    sbt := { contexts := [], patterns := c.patterns }
    rge := { State.reset.rge with generations := [⟨0, c.partners⟩] }
    rte := { State.reset.rte with generations := [⟨0, c.tariffs⟩] }
    cfs := { state := .ok, copy := some c, writing := none }
    pending := waiting }

/-- The copy the start-up read finds valid: none where a write was under way (R192, R193). -/
def Cfs.validCopy (c : Cfs) : Option Snapshot := if c.state = .busy then none else c.copy

/-- The machine right after a hardware reset (R193); the commands that wait go on waiting (assumption 21). -/
def hardwareReset (s : State) : State :=
  match s.cfs.validCopy with
  | none => { State.reset with pending := s.pending }
  | some c => State.fromStore c s.pending

/-- HARDWARE_RESET (R193). -/
def execHardwareReset (s : State) : Host.Outcome State Fault Refusal := done (hardwareReset s)

/-! ### RESTART (R195) -/

/-- The blocks that take a RESTART. -/
def allBlocks : List Block := [.epc, .cap, .duc, .sbt, .rge, .rte, .tkq]

/-- RESTART's rule: conditions cleared, no notice pending, the load abandoned, and the restart delivered to the seven blocks
(R195). The events delivered to blocks and not yet taken stay delivered (DESIGN CHOICE, assumption 50). -/
def restartRule (s : State) : Answer :=
  answer .ok
    { s with
      ctp := { s.ctp with conditions := 0#16, noticePending := false, load := none }
      mail := { s.mail with restart := allBlocks } }

/-- RESTART (R195). -/
def execRestart (tag : Nat) (s : State) : Host.Outcome State Fault Refusal := done (request tag 0x6E [] restartRule s)

/-- A block's taking of the restart delivered to it; with the last block's, requests are taken again (R195). -/
def takeRestart (b : Block) (effect : State → State) (s : State) : State :=
  if s.mail.restart.contains b then
    let t := { s with mail := { s.mail with restart := s.mail.restart.erase b } }
    answerUnowned (effect t)
  else s

/-- The epoch that replaces the ring at a restart (R150). -/
def State.restartEpoch (s : State) : Epoch where
  number := (s.newestEpoch.number + 1) % 256
  reason := .restart
  zone := s.pzu.current
  linkClass := s.lkm.classHanded
  tariffGen := s.newestTariff.number
  partnerGen := s.newestPartner.number
  opened := s.shipTime
  pendingSet := []
  cut := .none
  cutTimer := none

/-- The EPC's restart (R150). -/
def epcRestartEffect (s : State) : State := releaseGenerations (setRing [s.restartEpoch] s)

/-- EPC_RESTART, after which held JOINs may be taken (R76, R150). -/
def execEpcRestart (s : State) : Host.Outcome State Fault Refusal :=
  done (takeRestart .epc (fun t => takeHeldJoins (epcRestartEffect t)) s)

/-- CAP_RESTART (R56). -/
def execCapRestart (s : State) : Host.Outcome State Fault Refusal := done (takeRestart .cap capRestartEffect s)

/-- DUC_RESTART (R76). -/
def execDucRestart (s : State) : Host.Outcome State Fault Refusal := done (takeRestart .duc ducRestartEffect s)

/-- SBT_RESTART, after which held JOINs may be taken (R76, R118). -/
def execSbtRestart (s : State) : Host.Outcome State Fault Refusal :=
  done (takeRestart .sbt (fun t => takeHeldJoins (sbtRestartEffect t)) s)

/-- RGE_RESTART (R137). -/
def execRgeRestart (s : State) : Host.Outcome State Fault Refusal := done (takeRestart .rge rgeRestartEffect s)

/-- RTE_RESTART: the entry counts are kept, the tariff generations follow the ring (R150), and the attention list empties as
the SBT frees the contexts; the RTE does nothing of its own (R167). -/
def execRteRestart (s : State) : Host.Outcome State Fault Refusal := done (takeRestart .rte id s)

/-- TKQ_RESTART: tickets, sequence number, settings and refusal count are kept, and the SBT's restart deals with the held usage
(R180). -/
def execTkqRestart (s : State) : Host.Outcome State Fault Refusal := done (takeRestart .tkq id s)

end Sys2Proof.Machine
end

