-- ==== Sys2Proof/Machine/Dispatch.lean ====
section
/-! DEFINITION. The meaning of each command of Sys2Proof.Instr: one arm per row of spec/opcode_table.json. -/

namespace Sys2Proof.Machine

/-- What a command does to everything but the queue. -/
def exec (i : Instr) (s : State) : Host.Outcome State Fault Refusal :=
  match i with
  | .hardwareReset => Sys2Proof.Machine.execHardwareReset s
  | .controlFrame bytes => Sys2Proof.Machine.execControlFrame bytes s
  | .gapTimeout => Sys2Proof.Machine.execGapTimeout s
  | .controlFrameSent => Sys2Proof.Machine.execControlFrameSent s
  | .notice => Sys2Proof.Machine.execNotice s
  | .fix tag lat lon quality fixTime => Sys2Proof.Machine.execFix tag lat lon quality fixTime s
  | .zoneForce tag zone => Sys2Proof.Machine.execZoneForce tag zone s
  | .zoneRelease tag => Sys2Proof.Machine.execZoneRelease tag s
  | .zoneQuery tag zone => Sys2Proof.Machine.execZoneQuery tag zone s
  | .staleTimerExpiry => Sys2Proof.Machine.execStaleTimerExpiry s
  | .linkEnable tag link kind => Sys2Proof.Machine.execLinkEnable tag link kind s
  | .linkDisable tag link => Sys2Proof.Machine.execLinkDisable tag link s
  | .linkSet tag link ceiling bonus => Sys2Proof.Machine.execLinkSet tag link ceiling bonus s
  | .linkQuery tag link => Sys2Proof.Machine.execLinkQuery tag link s
  | .status link carrier quality latency capacity => Sys2Proof.Machine.execStatus link carrier quality latency capacity s
  | .echo link sequence => Sys2Proof.Machine.execEcho link sequence s
  | .carried link => Sys2Proof.Machine.execCarried link s
  | .released link => Sys2Proof.Machine.execReleased link s
  | .terminalFrameInvalid payload => Sys2Proof.Machine.execTerminalFrameInvalid payload s
  | .probeTimerExpiry => Sys2Proof.Machine.execProbeTimerExpiry s
  | .carryTimeout link => Sys2Proof.Machine.execCarryTimeout link s
  | .drainTimerExpiry link => Sys2Proof.Machine.execDrainTimerExpiry link s
  | .holdOffExpiry link => Sys2Proof.Machine.execHoldOffExpiry link s
  | .dwellTimerExpiry => Sys2Proof.Machine.execDwellTimerExpiry s
  | .linkZoneCheck => Sys2Proof.Machine.execLinkZoneCheck s
  | .capacityHandover => Sys2Proof.Machine.execCapacityHandover s
  | .regrantTimerExpiry => Sys2Proof.Machine.execRegrantTimerExpiry s
  | .join unit serial => Sys2Proof.Machine.execJoin unit serial s
  | .heartbeat unit phase power demand => Sys2Proof.Machine.execHeartbeat unit phase power demand s
  | .heartbeatTimerExpiry cell => Sys2Proof.Machine.execHeartbeatTimerExpiry cell s
  | .deckFrameInvalid payload => Sys2Proof.Machine.execDeckFrameInvalid payload s
  | .cellDisable tag cell => Sys2Proof.Machine.execCellDisable tag cell s
  | .cellEnable tag cell => Sys2Proof.Machine.execCellEnable tag cell s
  | .cellQuery tag cell clear => Sys2Proof.Machine.execCellQuery tag cell clear s
  | .activity unit kinds => Sys2Proof.Machine.execActivity unit kinds s
  | .idleTimerExpiry cell => Sys2Proof.Machine.execIdleTimerExpiry cell s
  | .deepTimerExpiry cell => Sys2Proof.Machine.execDeepTimerExpiry cell s
  | .cellRetuneOrder => Sys2Proof.Machine.execCellRetuneOrder s
  | .retuned unit beacon => Sys2Proof.Machine.execRetuned unit beacon s
  | .retuneTimerExpiry cell => Sys2Proof.Machine.execRetuneTimerExpiry cell s
  | .cellSilenceOrder => Sys2Proof.Machine.execCellSilenceOrder s
  | .silenced unit => Sys2Proof.Machine.execSilenced unit s
  | .silenceTimerExpiry cell => Sys2Proof.Machine.execSilenceTimerExpiry cell s
  | .lampSet tag pattern => Sys2Proof.Machine.execLampSet tag pattern s
  | .attach unit sid => Sys2Proof.Machine.execAttach unit sid s
  | .detach unit sid ctx => Sys2Proof.Machine.execDetach unit sid ctx s
  | .subRelease tag ctx => Sys2Proof.Machine.execSubRelease tag ctx s
  | .graceDeadline ctx => Sys2Proof.Machine.execGraceDeadline ctx s
  | .serviceOffRelease => Sys2Proof.Machine.execServiceOffRelease s
  | .subQuery tag ctx => Sys2Proof.Machine.execSubQuery tag ctx s
  | .subFind tag sid => Sys2Proof.Machine.execSubFind tag sid s
  | .regAns link correlation result cause => Sys2Proof.Machine.execRegAns link correlation result cause s
  | .regTimeoutDeadline correlation => Sys2Proof.Machine.execRegTimeoutDeadline correlation s
  | .reevaluation => Sys2Proof.Machine.execReevaluation s
  | .subReregister tag ctx => Sys2Proof.Machine.execSubReregister tag ctx s
  | .epochOpen reason => Sys2Proof.Machine.execEpochOpen reason s
  | .usageEnd unit epoch => Sys2Proof.Machine.execUsageEnd unit epoch s
  | .cutTimerExpiry epoch => Sys2Proof.Machine.execCutTimerExpiry epoch s
  | .usage unit epoch entries => Sys2Proof.Machine.execUsage unit epoch entries s
  | .quotaGrant tag ctx mode amount => Sys2Proof.Machine.execQuotaGrant tag ctx mode amount s
  | .quotaAttentionRead tag => Sys2Proof.Machine.execQuotaAttentionRead tag s
  | .ticketRead tag max => Sys2Proof.Machine.execTicketRead tag max s
  | .ticketRelease tag sequence => Sys2Proof.Machine.execTicketRelease tag sequence s
  | .intervalDeadline ctx => Sys2Proof.Machine.execIntervalDeadline ctx s
  | .settingsSet tag setting value => Sys2Proof.Machine.execSettingsSet tag setting value s
  | .settingsGet tag setting => Sys2Proof.Machine.execSettingsGet tag setting s
  | .timeSet tag seconds => Sys2Proof.Machine.execTimeSet tag seconds s
  | .condClear tag conds => Sys2Proof.Machine.execCondClear tag conds s
  | .condMask tag conds => Sys2Proof.Machine.execCondMask tag conds s
  | .statusRead tag block => Sys2Proof.Machine.execStatusRead tag block s
  | .identify tag => Sys2Proof.Machine.execIdentify tag s
  | .unlock tag code => Sys2Proof.Machine.execUnlock tag code s
  | .lock tag => Sys2Proof.Machine.execLock tag s
  | .lockoutTimerExpiry => Sys2Proof.Machine.execLockoutTimerExpiry s
  | .codeSet tag code => Sys2Proof.Machine.execCodeSet tag code s
  | .loadBegin tag kind total checksum => Sys2Proof.Machine.execLoadBegin tag kind total checksum s
  | .loadData tag offset bytes => Sys2Proof.Machine.execLoadData tag offset bytes s
  | .loadCommit tag => Sys2Proof.Machine.execLoadCommit tag s
  | .storeSave tag => Sys2Proof.Machine.execStoreSave tag s
  | .storeWriteCompletion success => Sys2Proof.Machine.execStoreWriteCompletion success s
  | .restart tag => Sys2Proof.Machine.execRestart tag s
  | .epcRestart => Sys2Proof.Machine.execEpcRestart s
  | .capRestart => Sys2Proof.Machine.execCapRestart s
  | .ducRestart => Sys2Proof.Machine.execDucRestart s
  | .sbtRestart => Sys2Proof.Machine.execSbtRestart s
  | .rgeRestart => Sys2Proof.Machine.execRgeRestart s
  | .rteRestart => Sys2Proof.Machine.execRteRestart s
  | .tkqRestart => Sys2Proof.Machine.execTkqRestart s
  | .lengthDiscard => Sys2Proof.Machine.execLengthDiscard s

end Sys2Proof.Machine
end

