-- ==== Sys2Proof/Machine/Step.lean ====
section
/-! DEFINITION. One step of the block: the command at the front of the queue, or one millisecond of ship time when none waits. -/

namespace Sys2Proof.Machine

/-- One millisecond in which nothing happens (R191; assumption 3). -/
def tick (s : State) : State := { s with shipTime := s.shipTime + 1 }

/-- One step: the command at the front of the queue is taken with the queue's rest; on an empty queue ship time advances by
one millisecond (assumption 3). -/
def step (s : State) : Host.Outcome State Fault Refusal :=
  match s.pending with
  | [] => .next (tick s)
  | c :: rest => exec c { s with pending := rest }

/-- The state with the command that a word spells put at the front of its queue; unchanged where the word spells none. -/
def State.withFetchWord (s : State) (nbits w : Nat) : State :=
  match decodeTableWord nbits w with
  | none => s
  | some c => { s with pending := c :: s.pending }

end Sys2Proof.Machine
end

