-- ==== Sys2Proof/Safety.lean ====
section
/-! DEFINITION. What counts as a safe state: the laws that the manual states of the whole part, each a decidable property of one
state that every step is to keep, and the words in which statements about replies and frames are written. -/

namespace Sys2Proof.Machine

/-! ### The laws -/

/-- R45, R49 and R83: the pool is what the reserve leaves of the carried capacity, the grants sum to no more than the pool, a cell
outside SERVING has grant 0, and a deep timer runs only in DOZE. -/
abbrev GrantLaw (s : State) : Prop :=
  s.cap.pool = s.cap.carried - s.settings.reserve ∧ s.grantSum ≤ s.cap.pool
    ∧ (∀ c : CellId, (s.cell c).state ≠ .serving → (s.cell c).grant = 0)
    ∧ ∀ c : CellId, (s.cell c).deepTimer.isSome = true → (s.cell c).state = .doze

/-- The contexts in use stand in strictly rising index order. -/
abbrev ContextsInOrder (s : State) : Prop := s.sbt.contexts.Pairwise (fun a b => a.1 < b.1)

/-- R170: the tickets queued and the contexts with an open accumulator are at most 2,048 together. -/
abbrev GateLaw (s : State) : Prop := ContextsInOrder s ∧ s.gateCount ≤ 2048

/-- R97: every cell's attached count is the number of contexts in use whose serving cell it is. -/
abbrev AttachedLaw (s : State) : Prop :=
  ContextsInOrder s
    ∧ ∀ c : CellId, (s.cell c).attached = (s.sbt.contexts.filter (fun e => e.2.cell == c)).length

/-- R161: a limited quota's balance is within its range, and QUOTA restricts exactly when the balance is 0. -/
abbrev QuotaLaw (s : State) : Prop :=
  ContextsInOrder s
    ∧ ∀ e ∈ s.sbt.contexts,
      e.2.quota.balance ≤ maxMoney ∧ (e.2.quota.unlimited = false → (e.2.restrictions.quota = true ↔ e.2.quota.balance = 0))

/-- The purpose of a registration that is queued or sent. -/
def Registration.purpose : Registration → Option Purpose
  | .none => .none
  | .queued _ p => some p
  | .sent _ p => some p

/-- R96, R121 and R155: every index is below 2,048; a leave reason stands exactly in a LEAVING context; a registration queued or
sent has purpose ATTACH only while ATTACHING and REREG only while ACTIVE; and an ATTACHING context has no open accumulator and no
held usage. -/
abbrev ContextLaw (s : State) : Prop :=
  ContextsInOrder s
    ∧ ∀ e ∈ s.sbt.contexts,
      e.1 < 2048 ∧ (e.2.leaving.isSome = true ↔ e.2.state = .leaving)
        ∧ (e.2.registration.purpose = some .attach → e.2.state = .attaching)
        ∧ (e.2.registration.purpose = some .rereg → e.2.state = .active)
        ∧ (e.2.state = .attaching → e.2.accumulator = none ∧ e.2.held = none)

/-- R171: the hold list names no context twice, a context is on it exactly when it has held usage, and BACKLOG restricts exactly
the contexts with held usage. -/
abbrev HoldLaw (s : State) : Prop :=
  ContextLaw s ∧ s.tkq.holdList.Nodup
    ∧ (∀ k : Nat, k ∈ s.tkq.holdList ↔ ((s.context k).bind Context.held).isSome = true)
    ∧ ∀ e ∈ s.sbt.contexts, e.2.restrictions.backlog = e.2.held.isSome

/-- R121 and R122: at most 32 outstanding entries, no two with one correlation number. -/
abbrev OutstandingLaw (s : State) : Prop :=
  s.rge.outstanding.length ≤ 32 ∧ (s.rge.outstanding.map Outstanding.correlation).Nodup

/-- R188: the staging buffer is in its canonical form, and what is staged lies below a total length of 1 to 16,384. -/
abbrev LoadLaw (s : State) : Prop :=
  ∀ l ∈ s.ctp.load, Staging.wf l.cells ∧ 1 ≤ l.total ∧ l.total ≤ 16384 ∧ ∀ c ∈ l.cells, c.1 < l.total

/-- Whether epochs have consecutive numbers modulo 256. -/
def consecutive : List Epoch → Bool
  | e :: f :: rest => f.number == (e.number + 1) % 256 && consecutive (f :: rest)
  | _ => true

/-- R138: the ring holds 1 to 4 epochs with consecutive numbers, each below 256, and the oldest waits for nothing. -/
abbrev RingLaw (s : State) : Prop :=
  1 ≤ s.epc.ring.length ∧ s.epc.ring.length ≤ 4 ∧ consecutive s.epc.ring = true ∧ (∀ e ∈ s.epc.ring, e.number < 256)
    ∧ ∀ e ∈ s.epc.ring.head?, e.cut = .none

/-- R34: at most one link is CARRYING and at most one ENGAGING, and each such link is enabled. -/
abbrev LinkLaw (s : State) : Prop :=
  (∀ l m : LinkId, (s.link l).state = .carrying → (s.link m).state = .carrying → l = m)
    ∧ (∀ l m : LinkId, (s.link l).state = .engaging → (s.link m).state = .engaging → l = m)
    ∧ ∀ l : LinkId, (s.link l).state.ordered = true → (s.link l).cfg.enabled = true

/-- R182: at most 4 requests are queued, at most 12 frames of the shared kinds, and one reply for each answered entry; the send
position lies inside the frame at the head of the outbound queue, and is 0 where there is none. -/
abbrev QueueLaw (s : State) : Prop :=
  s.ctp.inbound.length ≤ 4 ∧ s.sharedFrames ≤ 12
    ∧ (s.ctp.outbound.filter (fun f => f.kind == .reply)).length = (s.ctp.inbound.filter InEntry.answered).length
    ∧ (s.ctp.outbound = [] → s.ctp.sent = 0) ∧ ∀ f ∈ s.ctp.outbound.head?, s.ctp.sent < f.bytes.length

/-- R85: the retune list holds no cell twice, and every cell on it is in SERVING, DOZE or DEEP. -/
abbrev RetuneLaw (s : State) : Prop :=
  s.duc.retuneList.Nodup
    ∧ ∀ c ∈ s.duc.retuneList, (s.cell c).state = .serving ∨ (s.cell c).state = .doze ∨ (s.cell c).state = .deep

/-- R93: the lamp shows the pattern it should. -/
abbrev LampLaw (s : State) : Prop := s.duc.lamp.pattern = s.lampWanted

/-! ### A safe run -/

/-- A state whose next step neither faults nor is refused. -/
def Safe (s : State) : Prop := ∃ t, step s = .next t

/-! ### Words for statements -/

/-- Whether a request of a code that arrives now is taken at once: nothing waits, no restart runs, the queue has room, and the
code is not refused by the lock (R182, R183, R195). -/
abbrev Ready (code : Nat) (s : State) : Prop :=
  s.firstWaiting = none ∧ s.restarting = false ∧ s.ctp.inbound.length < 4 ∧ (isProtected code && s.ctp.locked) = false

/-- A state with a request answered: its entry stands answered at the tail of the inbound queue, and its reply at the tail of the
outbound queue (R182). -/
def State.replied (tag code : Nat) (body : List Byte) (status : Status) (reply : List Byte) (s : State) : State :=
  { s with
    ctp :=
      { s.ctp with
        inbound := s.ctp.inbound ++ [⟨tag, code, body, true⟩]
        outbound := s.ctp.outbound ++ [⟨.reply, tag, status.number, reply⟩] } }

/-- A command ends in a state, the lamp brought up to date (R93). -/
abbrev Becomes (o : Host.Outcome State Fault Refusal) (x : State) : Prop := o = .next (refreshLamp x)

/-- A request ends in a state and is answered. -/
abbrev Replies (o : Host.Outcome State Fault Refusal) (tag code : Nat) (body : List Byte) (status : Status)
    (reply : List Byte) (x : State) : Prop :=
  Becomes o (x.replied tag code body status reply)

/-- A command ends in a next state with a property. -/
abbrev Next (o : Host.Outcome State Fault Refusal) (property : State → Prop) : Prop := ∃ t, o = .next t ∧ property t

/-- A request has been answered: its entry stands answered at the tail of the inbound queue, and its reply is the last outbound
frame. -/
abbrev Answered (s t : State) (tag code : Nat) (body : List Byte) (status : Status) (reply : List Byte) : Prop :=
  t.ctp.inbound = s.ctp.inbound ++ [⟨tag, code, body, true⟩]
    ∧ t.ctp.outbound = s.ctp.outbound ++ [⟨.reply, tag, status.number, reply⟩]

/-- The deck frames that a command has sent. -/
def State.sentSince (s t : State) : List (CellId × DeckFrame) := t.ports.deck.drop s.ports.deck.length

/-- The terminal frames that a command has sent. -/
def State.terminalSince (s t : State) : List (LinkId × TermFrame) := t.ports.terminal.drop s.ports.terminal.length

/-- A state with the capacity record and the grants that another holds: `s.withGrantsOf t` is `t` as it stood before its grants
were recomputed, where nothing but that recomputation has moved what the CAP of `s` held (R49). -/
def State.withGrantsOf (s t : State) : State :=
  { t with
    cap := s.cap
    duc := { t.duc with cells := Vector.ofFn fun c => { t.cell c with grant := (s.cell c).grant } } }

/-- The GRANT frames that a recomputation of a state sends (R50). -/
def State.grantFrames (s : State) : List (CellId × DeckFrame) := s.sentSince (recompute s)

/-- The grants, the pointer and the demand-changed flag of `t` are those of one recomputation over its own cells, from what the CAP
of `s` held (R47 to R49). -/
abbrev Regranted (s t : State) : Prop :=
  t.cap = (recompute (s.withGrantsOf t)).cap ∧ ∀ c : CellId, t.cell c = (recompute (s.withGrantsOf t)).cell c

/-- Only grants, the rotation pointer, the demand-changed flag and the deck port's output differ, and the lamp. -/
abbrev OnlyGrants (s t : State) : Prop :=
  t =
    { s with
      cap := { s.cap with pointer := t.cap.pointer, demandChanged := t.cap.demandChanged }
      duc := { s.duc with cells := t.duc.cells, lamp := t.duc.lamp }
      ports := { s.ports with deck := t.ports.deck } }
    ∧ ∀ c : CellId, t.cell c = { s.cell c with grant := (t.cell c).grant }

/-- A cell has been lost or disabled (R69, R71): it is in the state given, its timers stopped and its supervision fresh, off the
retune list and in no pending set; where the contexts stand in order, those it serves are orphans, and the others keep their
mark. -/
abbrev Dropped (c : CellId) (state : CellState) (s t : State) : Prop :=
  t.cell c =
    { s.cell c with
      state := state
      heartbeatTimer := none
      idleTimer := none
      deepTimer := none
      retuneTimer := none
      silenceTimer := none
      missed := 0
      good := false
      target := none
      grant := 0
      attached := (t.cell c).attached }
    ∧ c ∉ t.duc.retuneList ∧ (∀ e ∈ t.epc.ring, c ∉ e.pendingSet)
    ∧ (ContextsInOrder s →
      (∀ e ∈ s.sbt.contexts, e.2.cell = c → e.2.state ≠ .leaving → ((t.context e.1).bind Context.orphan).isSome = true)
        ∧ ∀ e ∈ s.sbt.contexts, e.2.cell ≠ c → (t.context e.1).bind Context.orphan = (s.context e.1).bind Context.orphan)
    ∧ ((s.cell c).state ≠ .retuning → ∀ d : CellId, d ≠ c → t.cell d = { s.cell d with grant := (t.cell d).grant })
    ∧ t.settings = s.settings ∧ t.pzu = s.pzu ∧ t.lkm = s.lkm ∧ t.cfs = s.cfs ∧ t.mail = s.mail
    ∧ t.pending = s.pending ∧ t.ports.terminal = s.ports.terminal

/-- The body of a FIX request (section 12.2). -/
def fixBody (lat lon : Int) (quality fixTime : Nat) : List Byte :=
  be 4 (word32 lat) ++ be 4 (word32 lon) ++ be 1 quality ++ be 4 fixTime

/-- A state without an outstanding entry (R125). -/
def State.withoutEntry (o : Outstanding) (s : State) : State :=
  { s with rge := { s.rge with outstanding := s.rge.outstanding.filter (fun p => p.correlation != o.correlation) } }

/-- What the failure of an attempt makes of a state that no longer holds its outstanding entry (R131): the first is tried again;
the second refuses an attach with SHORE_TIMEOUT, or takes partner and jurisdiction away and restricts under ZONE. -/
def State.attemptFailed (o : Outstanding) (x : Context) (attempt : Nat) (purpose : Purpose) (s : State) : State :=
  if attempt = 1 then enqueue o.ctx 2 purpose s
  else if purpose = .attach then
    freeContext o.ctx (sendDeck x.cell (.refuse .shoreTimeout x.sid) (setContext o.ctx { x with registration := .none } s))
  else
    setCond .regFailure
      (restrict o.ctx (fun r => { r with zone := true })
        (setContext o.ctx { x with registration := .none, partner := none, jurisdiction := none } s))

/-- A state whose ring is `f` and then `rest`, the oldest epoch having retired from before them: `f` waits for nothing, the boundary
sweep has run, and every generation but the newest that no held epoch names is released (R146 steps 1 to 3, R139). -/
def State.retired (f : Epoch) (rest : List Epoch) (s : State) : State :=
  let u := boundarySweep { s with epc := { s.epc with ring := { f with cut := .none } :: rest } }
  { u with
    rge :=
      { u.rge with
        generations :=
          u.rge.generations.filter
            (fun g => g.number == s.newestPartner.number || (f :: rest).any (fun e => e.partnerGen == g.number)) }
    rte :=
      { u.rte with
        generations :=
          u.rte.generations.filter
            (fun g => g.number == s.newestTariff.number || (f :: rest).any (fun e => e.tariffGen == g.number)) } }

/-- A state in which an entry for a context has been held for want of ticket space (R171). -/
def State.heldBack (k up down number : Nat) (x : Context) (s : State) : State :=
  setCond .ticketBacklog
    (restrict k (fun r => { r with backlog := true })
      (setContext k { x with held := some ⟨up, down, number⟩ }
        { s with
          tkq := { s.tkq with holdList := s.tkq.holdList ++ [k], refusals := min 65535 (s.tkq.refusals + 1) } }))

/-- The epoch an entry tagged with a number is rated under: the one of that number where it is held, else the oldest held
(R149). -/
def State.ratingEpoch (number : Nat) (s : State) : Epoch := (s.heldEpoch number).getD s.oldestEpoch

/-- A state in which an entry tagged with a number has been counted as LATE if that number is not held (R149, R155). -/
def State.lateCounted (number : Nat) (s : State) : State :=
  if (s.heldEpoch number).isSome then s
  else { s with rte := { s.rte with lateEntries := min max32 (s.rte.lateEntries + 1) } }

/-- The rating key of a context's held usage: that under the epoch it keeps, or under the oldest held where that one has gone
(R149, R165). -/
def State.heldKey (s : State) (x : Context) (h : Held) : Key :=
  s.keyUnder x.homeGroup ((s.heldEpoch h.epoch).getD s.oldestEpoch)

/-- The contexts whose held usage needs room at the gate, in rising order: it would not go into an open accumulator of its own
key (R165, R180). -/
def State.needRoom (s : State) : List (Nat × Context) :=
  s.sbt.contexts.filter (fun e => e.2.held.any (fun h => e.2.accumulator.all (fun a => a.key != s.heldKey e.2 h)))

/-- Once a block has taken its restart, no request is answered as malformed: other blocks have yet to take theirs, or the waiting
request nearest the head, if there is one, fits its code (R183, R195). -/
abbrev State.NoneMalformed (b : Block) (s : State) : Prop :=
  s.mail.restart.erase b ≠ [] ∨ ∀ w ∈ s.firstWaiting, bodyFits w.code w.body = true

/-- A state in which a block has taken the restart delivered to it (R195). -/
def State.restartTaken (b : Block) (s : State) : State :=
  { s with mail := { s.mail with restart := s.mail.restart.erase b } }

/-- A state after a restart, with the held JOINs taken in their order of arrival unless the EPC or the SBT has yet to take the
restart that the DUC has taken (R76). -/
def State.joinsTaken (s : State) : State :=
  if s.holdsJoins = true then s
  else s.duc.heldJoins.foldl (fun t j => takeJoin j.1 j.2 t) { s with duc := { s.duc with heldJoins := [] } }

/-- The command that is a block's taking of a restart. -/
def Block.restart : Block → Instr
  | .epc => .epcRestart
  | .cap => .capRestart
  | .duc => .ducRestart
  | .sbt => .sbtRestart
  | .rge => .rgeRestart
  | .rte => .rteRestart
  | .tkq => .tkqRestart

/-- A state in which a bad frame from a cell has been counted (R59, R60). -/
def State.withBadFrame (c : CellId) (s : State) : State :=
  setCell c { s.cell c with badFrames := min 65535 ((s.cell c).badFrames + 1) } s

/-- A state in which a number of bytes have been clocked out on the control port (R182). -/
def State.clocked : Nat → State → State
  | 0, s => s
  | n + 1, s => State.clocked n (clockOut s)

/-- The low quality count that a STATUS of a quality makes (R26). -/
def State.lowRun (s : State) (l : LinkId) (quality : Nat) : Nat :=
  if min 100 quality < s.settings.exitThreshold then satAdd 255 (s.link l).lowQuality 1 else 0

/-- Some event of a list of kinds has a class (R78). -/
abbrev State.Among (s : State) (kinds : List Nat) (cls : EventClass) : Prop :=
  ∃ k ∈ kinds, (s.settings.events.toList[k]?).any (fun e => e.cls == cls) = true

/-- What registrations may change, and nothing else: the RGE's queue, table and numbers, the contexts, attached counts, the
attention list, conditions, and the frames sent; the lamp apart. -/
abbrev OnlyRegistration (s t : State) : Prop :=
  t =
    { s with
      rge := { s.rge with queue := t.rge.queue, outstanding := t.rge.outstanding, nextCorrelation := t.rge.nextCorrelation }
      sbt := { s.sbt with contexts := t.sbt.contexts }
      duc := { s.duc with cells := t.duc.cells, lamp := t.duc.lamp }
      rte := { s.rte with attention := t.rte.attention }
      ctp := { s.ctp with conditions := t.ctp.conditions, noticePending := t.ctp.noticePending }
      ports := t.ports }
    ∧ ∀ c : CellId, t.cell c = { s.cell c with attached := (t.cell c).attached }

/-- What rating, closing and freeing may change, and nothing else: the contexts, the ticket queue, the RTE's attention list and
late count, the RGE's queue and table, attached counts, conditions, and the deck frames sent; the lamp apart. -/
abbrev OnlyCharging (s t : State) : Prop :=
  t =
    { s with
      sbt := { s.sbt with contexts := t.sbt.contexts }
      tkq := t.tkq
      rte := { s.rte with attention := t.rte.attention, lateEntries := t.rte.lateEntries }
      rge := { s.rge with queue := t.rge.queue, outstanding := t.rge.outstanding }
      duc := { s.duc with cells := t.duc.cells, lamp := t.duc.lamp }
      ctp := { s.ctp with conditions := t.ctp.conditions, noticePending := t.ctp.noticePending }
      ports := { s.ports with deck := t.ports.deck } }
    ∧ ∀ c : CellId, t.cell c = { s.cell c with attached := (t.cell c).attached }

end Sys2Proof.Machine
end

