-- ==== Sys2Proof/WellFormed.lean ====
section
/-! DEFINITION. Which commands are well-formed: every operand fits its field (sections 12.2 to 12.4), a typed frame passes its
encoding checks (R196), and an event's operand names something the part has. -/

namespace Sys2Proof

open Machine

/-- Whether a number fits in `n` bytes. -/
def fits (n v : Nat) : Bool := decide (v < 256 ^ n)

/-- Whether a number fits in a signed 4-byte field. -/
def fitsSigned (i : Int) : Bool := decide (-2147483648 ≤ i) && decide (i < 2147483648)

/-- Whether a usage entry fits its fields. -/
def UsageEntry.wf (e : UsageEntry) : Bool := fits 2 e.ctx && fits 4 e.up && fits 4 e.down

/-- Whether an open reason is one of the events of R140. -/
def OpenReason.isEvent : OpenReason → Bool
  | .zone | .linkClass | .tariffLoad | .partnerLoad => true
  | .powerOn | .restart => false

/-- Whether a payload is one that DECK_FRAME_INVALID stands for: unreadable, addressed above 23, or failing its checks (R59). -/
def deckPayloadInvalid (payload : List Byte) : Bool :=
  match deckHeader payload with
  | none => true
  | some (unit, valid) => decide (23 < unit) || !valid

/-- Whether a command is well-formed. -/
def Instr.wf : Instr → Bool
  | .hardwareReset => true
  | .controlFrame bytes => decide (bytes.length ≤ 1032)
  | .gapTimeout => true
  | .controlFrameSent => true
  | .notice => true
  | .fix tag lat lon quality fixTime =>
    fits 1 tag && fitsSigned lat && fitsSigned lon && fits 1 quality && fits 4 fixTime
  | .zoneForce tag zone => fits 1 tag && fits 1 zone
  | .zoneRelease tag => fits 1 tag
  | .zoneQuery tag zone => fits 1 tag && zone.all (fits 1)
  | .staleTimerExpiry => true
  | .linkEnable tag link kind => fits 1 tag && fits 1 link && fits 1 kind
  | .linkDisable tag link => fits 1 tag && fits 1 link
  | .linkSet tag link ceiling bonus => fits 1 tag && fits 1 link && fits 2 ceiling && fits 1 bonus
  | .linkQuery tag link => fits 1 tag && fits 1 link
  | .status link carrier quality latency capacity =>
    fits 1 link && decide (carrier ≤ 1) && fits 1 quality && fits 2 latency && fits 2 capacity
  | .echo link sequence => fits 1 link && fits 2 sequence
  | .carried link => fits 1 link
  | .released link => fits 1 link
  | .terminalFrameInvalid payload => !terminalFrameValid payload
  | .probeTimerExpiry => true
  | .carryTimeout link => decide (link < 6)
  | .drainTimerExpiry link => decide (link < 6)
  | .holdOffExpiry link => decide (link < 6)
  | .dwellTimerExpiry => true
  | .linkZoneCheck => true
  | .capacityHandover => true
  | .regrantTimerExpiry => true
  | .join unit serial => fits 1 unit && fits 4 serial
  | .heartbeat unit phase power demand =>
    fits 1 unit && decide (phase ≤ 1) && decide (power ≤ 1) && fits 2 demand
  | .heartbeatTimerExpiry cell => decide (cell < 24)
  | .deckFrameInvalid payload => deckPayloadInvalid payload
  | .cellDisable tag cell => fits 1 tag && fits 1 cell
  | .cellEnable tag cell => fits 1 tag && fits 1 cell
  | .cellQuery tag cell clear => fits 1 tag && fits 1 cell && fits 1 clear
  | .activity unit kinds => fits 1 unit && activityValid kinds
  | .idleTimerExpiry cell => decide (cell < 24)
  | .deepTimerExpiry cell => decide (cell < 24)
  | .cellRetuneOrder => true
  | .retuned unit beacon => fits 1 unit && beaconValid beacon
  | .retuneTimerExpiry cell => decide (cell < 24)
  | .cellSilenceOrder => true
  | .silenced unit => fits 1 unit
  | .silenceTimerExpiry cell => decide (cell < 24)
  | .lampSet tag pattern => fits 1 tag && fits 1 pattern
  | .attach unit sid => fits 1 unit && sidValid sid
  | .detach unit sid ctx => fits 1 unit && sidValid sid && fits 2 ctx
  | .subRelease tag ctx => fits 1 tag && fits 2 ctx
  | .graceDeadline ctx => decide (ctx < 2048)
  | .serviceOffRelease => true
  | .subQuery tag ctx => fits 1 tag && fits 2 ctx
  | .subFind tag _ => fits 1 tag
  | .regAns link correlation result cause =>
    fits 1 link && fits 2 correlation && decide (result ≤ 1) && fits 1 cause
  | .regTimeoutDeadline correlation => fits 2 correlation
  | .reevaluation => true
  | .subReregister tag ctx => fits 1 tag && fits 2 ctx
  | .epochOpen reason => reason.isEvent
  | .usageEnd unit epoch => fits 1 unit && fits 1 epoch
  | .cutTimerExpiry epoch => fits 1 epoch
  | .usage unit epoch entries =>
    fits 1 unit && fits 1 epoch && usageCountValid entries.length && entries.all UsageEntry.wf
  | .quotaGrant tag ctx mode amount => fits 1 tag && fits 2 ctx && fits 1 mode && fits 8 amount
  | .quotaAttentionRead tag => fits 1 tag
  | .ticketRead tag max => fits 1 tag && fits 1 max
  | .ticketRelease tag sequence => fits 1 tag && fits 4 sequence
  | .intervalDeadline ctx => decide (ctx < 2048)
  | .settingsSet tag setting value => fits 1 tag && fits 1 setting && fits 4 value
  | .settingsGet tag setting => fits 1 tag && fits 1 setting
  | .timeSet tag seconds => fits 1 tag && fits 4 seconds
  | .condClear tag _ => fits 1 tag
  | .condMask tag _ => fits 1 tag
  | .statusRead tag block => fits 1 tag && fits 1 block
  | .identify tag => fits 1 tag
  | .unlock tag _ => fits 1 tag
  | .lock tag => fits 1 tag
  | .lockoutTimerExpiry => true
  | .codeSet tag _ => fits 1 tag
  | .loadBegin tag kind total checksum => fits 1 tag && fits 1 kind && fits 2 total && fits 4 checksum
  | .loadData tag offset bytes => fits 1 tag && fits 2 offset && decide (bytes.length ≤ 1022)
  | .loadCommit tag => fits 1 tag
  | .storeSave tag => fits 1 tag
  | .storeWriteCompletion _ => true
  | .restart tag => fits 1 tag
  | .epcRestart => true
  | .capRestart => true
  | .ducRestart => true
  | .sbtRestart => true
  | .rgeRestart => true
  | .rteRestart => true
  | .tkqRestart => true
  | .lengthDiscard => true

/-- A well-formed command. -/
abbrev WellFormed (i : Instr) : Prop := i.wf = true

/-- The request that a request row stands for: its tag, code and body as the control frame carries them (section 12.2); none for
the rows that are frames and events. -/
def Instr.asRequest : Instr → Option (Nat × Nat × List Byte)
  | .fix tag lat lon quality fixTime =>
    some (tag, 0x01, be 4 (word32 lat) ++ be 4 (word32 lon) ++ be 1 quality ++ be 4 fixTime)
  | .zoneForce tag zone => some (tag, 0x02, be 1 zone)
  | .zoneRelease tag => some (tag, 0x03, [])
  | .zoneQuery tag zone => some (tag, 0x04, match zone with | none => [] | some z => be 1 z)
  | .linkEnable tag link kind => some (tag, 0x10, be 1 link ++ be 1 kind)
  | .linkDisable tag link => some (tag, 0x11, be 1 link)
  | .linkSet tag link ceiling bonus => some (tag, 0x12, be 1 link ++ be 2 ceiling ++ be 1 bonus)
  | .linkQuery tag link => some (tag, 0x13, be 1 link)
  | .cellEnable tag cell => some (tag, 0x20, be 1 cell)
  | .cellDisable tag cell => some (tag, 0x21, be 1 cell)
  | .cellQuery tag cell clear => some (tag, 0x22, be 1 cell ++ be 1 clear)
  | .lampSet tag pattern => some (tag, 0x23, be 1 pattern)
  | .subQuery tag ctx => some (tag, 0x30, be 2 ctx)
  | .subFind tag sid => some (tag, 0x31, be 8 sid.toNat)
  | .subRelease tag ctx => some (tag, 0x32, be 2 ctx)
  | .subReregister tag ctx => some (tag, 0x33, be 2 ctx)
  | .quotaGrant tag ctx mode amount => some (tag, 0x40, be 2 ctx ++ be 1 mode ++ be 8 amount)
  | .quotaAttentionRead tag => some (tag, 0x41, [])
  | .ticketRead tag max => some (tag, 0x50, be 1 max)
  | .ticketRelease tag sequence => some (tag, 0x51, be 4 sequence)
  | .settingsSet tag setting value => some (tag, 0x60, be 1 setting ++ be 4 value)
  | .settingsGet tag setting => some (tag, 0x61, be 1 setting)
  | .timeSet tag seconds => some (tag, 0x62, be 4 seconds)
  | .condClear tag conds => some (tag, 0x63, be 2 conds.toNat)
  | .condMask tag conds => some (tag, 0x64, be 2 conds.toNat)
  | .statusRead tag block => some (tag, 0x65, be 1 block)
  | .unlock tag code => some (tag, 0x66, be 8 code.toNat)
  | .lock tag => some (tag, 0x67, [])
  | .codeSet tag code => some (tag, 0x68, be 8 code.toNat)
  | .loadBegin tag kind total checksum => some (tag, 0x69, be 1 kind ++ be 2 total ++ be 4 checksum)
  | .loadData tag offset bytes => some (tag, 0x6A, be 2 offset ++ bytes)
  | .loadCommit tag => some (tag, 0x6B, [])
  | .storeSave tag => some (tag, 0x6C, [])
  | .identify tag => some (tag, 0x6D, [])
  | .restart tag => some (tag, 0x6E, [])
  | .hardwareReset | .controlFrame _ | .gapTimeout | .controlFrameSent | .notice | .staleTimerExpiry => none
  | .status _ _ _ _ _ | .echo _ _ | .carried _ | .released _ | .terminalFrameInvalid _ | .probeTimerExpiry => none
  | .carryTimeout _ | .drainTimerExpiry _ | .holdOffExpiry _ | .dwellTimerExpiry | .linkZoneCheck => none
  | .capacityHandover | .regrantTimerExpiry | .join _ _ | .heartbeat _ _ _ _ | .heartbeatTimerExpiry _ => none
  | .deckFrameInvalid _ | .activity _ _ | .idleTimerExpiry _ | .deepTimerExpiry _ | .cellRetuneOrder => none
  | .retuned _ _ | .retuneTimerExpiry _ | .cellSilenceOrder | .silenced _ | .silenceTimerExpiry _ => none
  | .attach _ _ | .detach _ _ _ | .graceDeadline _ | .serviceOffRelease | .regAns _ _ _ _ => none
  | .regTimeoutDeadline _ | .reevaluation | .epochOpen _ | .usageEnd _ _ | .cutTimerExpiry _ | .usage _ _ _ => none
  | .intervalDeadline _ | .lockoutTimerExpiry | .storeWriteCompletion _ | .epcRestart | .capRestart => none
  | .ducRestart | .sbtRestart | .rgeRestart | .rteRestart | .tkqRestart | .lengthDiscard => none

end Sys2Proof
end

