-- ==== Sys2Proof/Certificates/Slice0/Obligations.lean ====
section
/-! DEFINITION. The statements for the provers: what the commands do and what they leave, by the numbered rules, and the laws
that every step keeps. -/

open Sys2Proof Sys2Proof.Machine

/-- For every command c and state s, a step of s with c at the front of its queue is exec c on s with the rest of the
queue. (95_what_each_step_holds.md) -/
def Obligations.StepTakesFront : Prop :=
  ∀ (c : Instr) (s : State),
    step { s with pending := c :: s.pending } = exec c s

/-- On an empty queue a step raises ship time by one millisecond and changes nothing else. This is the choice of log entry
3: R191 counts ship time in milliseconds and gives no command for the count. (R191, 00_scope.md, Time) -/
def Obligations.IdleTick : Prop :=
  ∀ (s : State),
    s.pending = [] →
    step s = .next { s with shipTime := s.shipTime + 1 }

/-- The state after reset on a blank store meets the laws that O4 to O12 say every step keeps: the grant law (the sum of
the grants within the pool, cells outside SERVING at 0), the retune list law, the gate law, the context and hold list
laws, the attached-count law, the quota law, the outstanding-table law, the ring law, the link law, the queue law, the
load law and the lamp law; and STORE_EVENT is the one condition set. (R34, R45, R85, R96, R97, R121, R138, R161, R170,
R171, R182, R188) -/
def Obligations.LawsAtReset : Prop :=
  (GrantLaw State.reset ∧ RetuneLaw State.reset ∧ GateLaw State.reset ∧ ContextLaw State.reset ∧ HoldLaw State.reset)
  ∧ (AttachedLaw State.reset ∧ QuotaLaw State.reset ∧ OutstandingLaw State.reset ∧ RingLaw State.reset ∧ LinkLaw State.reset)
  ∧ (QueueLaw State.reset ∧ LoadLaw State.reset ∧ LampLaw State.reset)
  ∧ (State.reset.ctp.conditions = Condition.storeEvent.bit)

/-- Two laws, each by itself. GrantLaw: from every state in which the pool is what the reserve leaves of the carried
capacity, the grants sum to no more than the pool, a cell outside SERVING has grant 0 and a deep timer runs only in
DOZE, every step leads to such a state. RetuneLaw: from every state whose retune list holds no cell twice and only
cells in SERVING, DOZE or DEEP, every step leads to such a state. (R45, R49, R83, R85) -/
def Obligations.GrantsStayWithinPool : Prop :=
  ∀ (s t : State),
    step s = .next t →
    (GrantLaw s → GrantLaw t)
    ∧ (RetuneLaw s → RetuneLaw t)

/-- Two laws, each by itself. GateLaw: from every state in which the contexts stand in rising order and the tickets queued
and the open accumulators are at most 2,048 together, every step leads to such a state. HoldLaw: from every state that
meets ContextLaw (O8), whose hold list names no context twice and exactly those with held usage, and in which BACKLOG
restricts exactly the contexts with held usage, every step leads to such a state. (R170, R171, R174, R180) -/
def Obligations.GateStaysWithinBound : Prop :=
  ∀ (s t : State),
    step s = .next t →
    (GateLaw s → GateLaw t)
    ∧ (HoldLaw s → HoldLaw t)

/-- From every state in which each cell's attached count is the number of contexts in use that name it as serving cell,
every step leads to such a state. (R97) -/
def Obligations.AttachedCountsStayTrue : Prop :=
  ∀ (s t : State),
    AttachedLaw s →
    step s = .next t →
    AttachedLaw t

/-- From every state in which every balance is within 2^40 − 1 µc and a limited context is restricted under QUOTA exactly
when its balance is 0, every step leads to such a state. (R161, R162, R164) -/
def Obligations.QuotasStayTrue : Prop :=
  ∀ (s t : State),
    QuotaLaw s →
    step s = .next t →
    QuotaLaw t

/-- Two laws, each by itself. OutstandingLaw: from every state with at most 32 outstanding entries, no two with one
correlation number, every step leads to such a state. ContextLaw: from every state whose contexts stand in rising
order below 2,048, in which a leave reason stands exactly in a LEAVING context, a queued or sent registration has
purpose ATTACH only in an ATTACHING and REREG only in an ACTIVE context, and an ATTACHING context has no open
accumulator and no held usage, every step leads to such a state. (R121, R122, R123, R96, R107, R155) -/
def Obligations.OutstandingStaysDistinct : Prop :=
  ∀ (s t : State),
    step s = .next t →
    (OutstandingLaw s → OutstandingLaw t)
    ∧ (ContextLaw s → ContextLaw t)

/-- From every state whose ring holds 1 to 4 epochs with consecutive numbers modulo 256, each below 256, the oldest with
cut state NONE, every step leads to such a state. (R138, R141, R146, R147) -/
def Obligations.RingStaysOrdered : Prop :=
  ∀ (s t : State),
    RingLaw s →
    step s = .next t →
    RingLaw t

/-- From every state in which at most one link is CARRYING and at most one ENGAGING, each of them enabled, every step
leads to such a state. (R34, R36) -/
def Obligations.LinksStaySingle : Prop :=
  ∀ (s t : State),
    LinkLaw s →
    step s = .next t →
    LinkLaw t

/-- Two laws, each by itself. QueueLaw: from every state with at most 4 queued requests, at most 12 frames of the shared
kinds, one queued reply for each answered entry, and a send position inside the head frame (0 where the queue is
empty), every step leads to such a state. LoadLaw: from every state in which an open load has a total length of 1 to
16,384 and its staged bytes are in canonical form below that length, every step leads to such a state. (R182, R185,
R188) -/
def Obligations.QueuesStayBounded : Prop :=
  ∀ (s t : State),
    step s = .next t →
    (QueueLaw s → QueueLaw t)
    ∧ (LoadLaw s → LoadLaw t)

/-- Whatever the state before, after every command that has a next state the pattern shown is the forced one where one is
forced (R94), else by the rows of R93 in their order: with no cell in SERVING, DOZE or DEEP, OFF; else with no link
CARRYING, SLOW; else with a link ENGAGING, a cell RETUNING or SILENCING, or a cell on the retune list, FAST; else
STEADY. (R93, R94) -/
def Obligations.LampFollows : Prop :=
  ∀ (i : Instr) (s t : State),
    exec i s = .next t →
    (∀ p ∈ t.duc.lamp.forced, t.duc.lamp.pattern = p)
    ∧ (t.duc.lamp.forced = none →
      (∀ c : CellId, (t.cell c).state ≠ .serving ∧ (t.cell c).state ≠ .doze ∧ (t.cell c).state ≠ .deep) →
      t.duc.lamp.pattern = .off)
    ∧ (t.duc.lamp.forced = none →
      (∃ c : CellId, (t.cell c).state = .serving ∨ (t.cell c).state = .doze ∨ (t.cell c).state = .deep) →
      (∀ l : LinkId, (t.link l).state ≠ .carrying) →
      t.duc.lamp.pattern = .slow)
    ∧ (t.duc.lamp.forced = none →
      (∃ c : CellId, (t.cell c).state = .serving ∨ (t.cell c).state = .doze ∨ (t.cell c).state = .deep) →
      (∃ l : LinkId, (t.link l).state = .carrying) →
      t.duc.lamp.pattern =
        if (∃ l : LinkId, (t.link l).state = .engaging) ∨ (∃ c : CellId, (t.cell c).state = .retuning
          ∨ (t.cell c).state = .silencing)
          ∨ t.duc.retuneList ≠ [] then .fast
        else .steady)

/-- For every tag, code and body of at most 1,024 bytes, the bytes of the request's control frame reach a hunting
receiver. As many bytes are clocked out (log entry 7: each byte out precedes the effect of its byte in). With nothing
waiting and room in the queue a body that fits its code is queued as one waiting entry with that tag, code and body;
where no restart runs, an unknown code or a body that does not fit is answered BAD_ARG, or LOCKED for a protected
request while the port is locked (that this follows at once is log entry 31). Behind a waiting request, or during a
restart, any request with room only joins the tail. With four entries queued it is answered BUSY while fewer than 12
shared frames are queued, and is else discarded with cause OVERRUN. Nothing else changes. A malformed request that
waits alone during a restart is answered so when the last block takes its restart (log entry 31). (R181, R182, R183,
R195, 12_frame_and_record_formats.md, section 12.2) -/
def Obligations.ControlFrameCarriesRequest : Prop :=
  ∀ (s : State) (tag code : Nat) (body : List Byte) (others : List InEntry) (b : Block),
    tag < 256 →
    code < 256 →
    (s.ctp.receiver = .hunting → body.length ≤ 1024 → s.firstWaiting = none →
      (s.clocked (8 + body.length)).ctp.inbound.length < 4 → bodyFits code body = true →
      let u := s.clocked (8 + body.length)
      Becomes (exec (.controlFrame (controlBytes 1 tag code body)) s)
        { u with ctp := { u.ctp with inbound := u.ctp.inbound ++ [⟨tag, code, body, false⟩] } })
    ∧ (s.ctp.receiver = .hunting → body.length ≤ 1024 → s.firstWaiting = none →
        (s.clocked (8 + body.length)).ctp.inbound.length < 4 → bodyFits code body = false → s.restarting = false →
      Becomes (exec (.controlFrame (controlBytes 1 tag code body)) s)
        ((s.clocked (8 + body.length)).replied tag code body (if isProtected code = true
          ∧ s.ctp.locked = true then .locked else .badArg) []))
    ∧ (s.ctp.receiver = .hunting → body.length ≤ 1024 → (s.restarting = true
        ∨ (s.firstWaiting).any (fun w => bodyFits w.code w.body) = true) →
        (s.clocked (8 + body.length)).ctp.inbound.length < 4 →
      let u := s.clocked (8 + body.length)
      Becomes (exec (.controlFrame (controlBytes 1 tag code body)) s)
        { u with ctp := { u.ctp with inbound := u.ctp.inbound ++ [⟨tag, code, body, false⟩] } })
    ∧ (s.ctp.receiver = .hunting → body.length ≤ 1024 → (s.restarting = true
        ∨ (s.firstWaiting).all (fun w => bodyFits w.code w.body) = true) →
        4 ≤ (s.clocked (8 + body.length)).ctp.inbound.length → (s.clocked (8 + body.length)).sharedFrames < 12 →
      let u := s.clocked (8 + body.length)
      Becomes (exec (.controlFrame (controlBytes 1 tag code body)) s)
        { u with ctp := { u.ctp with outbound := u.ctp.outbound ++ [⟨.busy, tag, Status.busy.number, []⟩] } })
    ∧ (s.ctp.receiver = .hunting → body.length ≤ 1024 → (s.restarting = true
        ∨ (s.firstWaiting).all (fun w => bodyFits w.code w.body) = true) →
        4 ≤ (s.clocked (8 + body.length)).ctp.inbound.length → 12 ≤ (s.clocked (8 + body.length)).sharedFrames →
      let u := s.clocked (8 + body.length)
      Becomes (exec (.controlFrame (controlBytes 1 tag code body)) s)
        (setCond .portError { u with ctp := { u.ctp with overrunCount := satAdd max16 u.ctp.overrunCount 1 } }))
    ∧ (s.mail.restart = [b] → s.ctp.inbound = others ++ [⟨tag, code, body, false⟩] → others.all InEntry.answered = true →
      bodyFits code body = false →
      Next (exec b.restart s) fun t =>
        t.ctp.inbound = others ++ [⟨tag, code, body, true⟩]
          ∧ t.ctp.outbound
            = s.ctp.outbound
              ++ [⟨.reply, tag,
                  (if isProtected code = true ∧ s.ctp.locked = true then Status.locked else Status.badArg).number, []⟩])

/-- From a hunting receiver with nothing waiting: a request frame whose last two bytes are not its CRC is discarded with
cause CRC, a frame of another kind with cause KIND, and a body length above 1,024 with cause LENGTH. The cause is
counted, PORT_ERROR is set, the receiver hunts again, as many bytes are clocked out as came in (log entry 7), and
nothing else changes. Bytes other than 0xC3 clock bytes out and change nothing else. GAP_TIMEOUT inside a frame brings
the ship time past 50 ms after the last byte, counts GAP, sets PORT_ERROR and leaves the receiver hunting.
LENGTH_DISCARD counts LENGTH likewise. In any other receiver state they do the same (log entry 6). A byte other than
0xC3 that comes more than 50 ms after the last one discards the frame with cause GAP. (R181, R184) -/
def Obligations.ControlFramesDiscarded : Prop :=
  ∀ (s : State) (tag code kind : Nat) (body : List Byte) (sum : BitVec 16) (hi lo : Byte) (other : List Byte)
    (b : Byte),
    tag < 256 →
    code < 256 →
    body.length ≤ 1024 →
    (s.ctp.receiver = .hunting → s.firstWaiting = none → (sum ≠ crc16 (be 2 body.length ++ be 1 1 ++ be 1 tag
      ++ be 1 code ++ body) →
      let u := s.clocked (8 + body.length)
      Becomes
        (exec (.controlFrame (0xC3#8 :: (be 2 body.length ++ be 1 1 ++ be 1 tag ++ be 1 code ++ body ++ be 2 sum.toNat))) s)
        (setCond .portError { u with ctp := { u.ctp with crcCount := satAdd max16 u.ctp.crcCount 1 } })))
    ∧ (s.ctp.receiver = .hunting → s.firstWaiting = none → (kind ≠ 1 ∧ kind < 256 →
      let u := s.clocked (8 + body.length)
      Becomes (exec (.controlFrame (controlBytes kind tag code body)) s)
        (setCond .portError { u with ctp := { u.ctp with kindCount := satAdd max16 u.ctp.kindCount 1 } })))
    ∧ (s.ctp.receiver = .hunting → s.firstWaiting = none → (1024 < 256 * hi.toNat + lo.toNat →
      let u := s.clocked 3
      Becomes (exec (.controlFrame [0xC3#8, hi, lo]) s)
        (setCond .portError { u with ctp := { u.ctp with lengthCount := satAdd max16 u.ctp.lengthCount 1 } })))
    ∧ (s.ctp.receiver = .hunting → s.firstWaiting = none → ((∀ b ∈ other, b ≠ 0xC3#8) →
        Becomes (exec (.controlFrame other) s) (s.clocked other.length)))
    ∧ (match s.ctp.receiver with
      | .hunting =>
        Becomes (exec .gapTimeout s)
          (setCond .portError { s with ctp := { s.ctp with gapCount := satAdd max16 s.ctp.gapCount 1 } })
      | .inside _ since =>
        Becomes (exec .gapTimeout s)
            (setCond .portError
              { s with
                shipTime := max s.shipTime (since + 51)
                ctp := { s.ctp with receiver := .hunting, gapCount := satAdd max16 s.ctp.gapCount 1 } })
          ∧ (since + 50 < s.shipTime → b ≠ 0xC3#8 → s.firstWaiting = none →
            let u := s.clocked 1
            Becomes (exec (.controlFrame [b]) s)
              (setCond .portError
                { u with ctp := { u.ctp with receiver := .hunting, gapCount := satAdd max16 u.ctp.gapCount 1 } })))
    ∧ (Becomes (exec .lengthDiscard s)
      (setCond .portError
        { s with ctp := { s.ctp with receiver := .hunting, lengthCount := satAdd max16 s.ctp.lengthCount 1 } }))

/-- Each byte clocked in clocks one out: with an empty queue the fill byte 0x00; else the byte of the head frame at the
send position, which moves on, so that a partly sent frame continues from its next byte; with the last byte the frame
leaves, as at CONTROL_FRAME_SENT. (Stated for a byte that a hunting receiver discards; the byte out precedes the
effect of the byte in, log entry 7.) CONTROL_FRAME_SENT clocks out the bytes left of the head frame: it leaves the
outbound queue, the send position is 0 and, if it is a reply of a queued request, the first answered entry leaves the
inbound queue; it is what clocking those bytes one by one does; with an empty queue it does nothing (log entry 7). A
pending notice is built while fewer than 12 shared frames are queued: it lists the conditions set and enabled with the
ship time, and where none is left no notice is sent. Otherwise NOTICE does nothing. (R182, R185,
11_control_port_conditions_and_configuration_store.md, section 11.1) -/
def Obligations.FramesLeaveAndNoticesForm : Prop :=
  ∀ (s : State) (b : Byte),
    (∀ f ∈ s.ctp.outbound.head?,
      Becomes (exec .controlFrameSent s)
          { s with
            ctp :=
              { s.ctp with
                outbound := s.ctp.outbound.tail
                sent := 0
                inbound := if f.kind = .reply then s.ctp.inbound.eraseP InEntry.answered else s.ctp.inbound }
            ports := { s.ports with control := s.ports.control ++ f.bytes.drop s.ctp.sent } }
        ∧ (s.ctp.sent < f.bytes.length → Becomes (exec .controlFrameSent s) (s.clocked (f.bytes.length - s.ctp.sent))))
    ∧ (s.ctp.outbound = [] → Becomes (exec .controlFrameSent s) s)
    ∧ (s.ctp.receiver = .hunting → s.firstWaiting = none → b ≠ 0xC3#8 →
      (s.ctp.outbound = [] →
        Becomes (exec (.controlFrame [b]) s) { s with ports := { s.ports with control := s.ports.control ++ [0x00#8] } })
      ∧ (∀ f ∈ s.ctp.outbound.head?,
        (s.ctp.sent + 1 < f.bytes.length →
          Becomes (exec (.controlFrame [b]) s)
            { s with
              ctp := { s.ctp with sent := s.ctp.sent + 1 }
              ports := { s.ports with control := s.ports.control ++ (f.bytes.drop s.ctp.sent).take 1 } })
        ∧ (s.ctp.sent + 1 = f.bytes.length → exec (.controlFrame [b]) s = exec .controlFrameSent s)))
    ∧ (s.ctp.noticePending = true → s.sharedFrames < 12 →
      Becomes (exec .notice s)
        { s with
          ctp :=
            { s.ctp with
              noticePending := false
              outbound :=
                if s.ctp.conditions &&& s.ctp.mask = 0#16 then s.ctp.outbound
                else s.ctp.outbound ++ [⟨.notice, 0, 1, be 2 (s.ctp.conditions &&& s.ctp.mask).toNat ++ be 8 s.shipTime⟩] } })
    ∧ (s.ctp.noticePending = false ∨ 12 ≤ s.sharedFrames → Becomes (exec .notice s) s)

/-- Each protected request that is taken while the port is LOCKED is answered LOCKED with an empty body, and nothing but
the queues of the control port changes. (R183, R186, 11_control_port_conditions_and_configuration_store.md, section
11.3) -/
def Obligations.ProtectedRequestsRefusedWhileLocked : Prop :=
  ∀ (i : Instr) (s : State) (tag code : Nat) (body : List Byte),
    i.asRequest = some (tag, code, body) →
    tag < 256 →
    isProtected code = true →
    s.ctp.locked = true →
    s.firstWaiting = none →
    s.restarting = false →
    s.ctp.inbound.length < 4 →
    Replies (exec i s) tag code body .locked [] s

/-- A request that arrives while four entries are queued is answered BUSY if fewer than 12 shared frames are queued; else
the frame is discarded with cause OVERRUN, which is counted and sets PORT_ERROR. Nothing else changes. (R182, R181) -/
def Obligations.FullQueueAnswersBusy : Prop :=
  ∀ (i : Instr) (s : State) (tag code : Nat) (body : List Byte),
    i.asRequest = some (tag, code, body) →
    tag < 256 →
    4 ≤ s.ctp.inbound.length →
    s.firstWaiting ≠ some ⟨tag, code, body, false⟩ →
    (s.sharedFrames < 12 →
      Becomes (exec i s) { s with ctp := { s.ctp with outbound := s.ctp.outbound ++ [⟨.busy, tag, Status.busy.number, []⟩] } })
    ∧ (12 ≤ s.sharedFrames →
      Becomes (exec i s)
        (setCond .portError
          { s with ctp := { s.ctp with receiver := .hunting, overrunCount := satAdd max16 s.ctp.overrunCount 1 } }))

/-- Where nothing waits, no restart runs and the queue has room, a request row has the same outcome whether its request
already waits nearest the head or arrives with the command (that it may arrive and be taken in the same command is the
model's choice, log entry 1). Behind another waiting request, and with nothing waiting while a restart runs, a request
row with room only enters the queue at its tail; nearest the head during a restart it goes on waiting (log entries 1,
30). When the last block takes its restart, a waiting request that fits its code still waits, and its row then takes
it: its entry is answered and its reply is the one frame appended. (R182, R183, R195) -/
def Obligations.QueuedRequestTakenAlike : Prop :=
  ∀ (i : Instr) (s : State) (tag code : Nat) (body : List Byte) (others : List InEntry) (b : Block),
    i.asRequest = some (tag, code, body) →
    tag < 256 →
    (s.firstWaiting = none → s.restarting = false → s.ctp.inbound.length < 4 →
      exec i { s with ctp := { s.ctp with inbound := s.ctp.inbound ++ [⟨tag, code, body, false⟩] } } = exec i s)
    ∧ (s.ctp.inbound.length < 4 →
      (s.firstWaiting = none ∧ s.restarting = true) ∨ (s.firstWaiting).any (fun w => w != ⟨tag, code, body, false⟩) = true →
      Becomes (exec i s) { s with ctp := { s.ctp with inbound := s.ctp.inbound ++ [⟨tag, code, body, false⟩] } })
    ∧ (s.firstWaiting = some ⟨tag, code, body, false⟩ → s.restarting = true → Becomes (exec i s) s)
    ∧ (s.mail.restart = [b] → s.ctp.inbound = others ++ [⟨tag, code, body, false⟩] → others.all InEntry.answered = true →
        bodyFits code body = true →
      Next (exec b.restart s) fun t =>
        t.restarting = false ∧ t.ctp.inbound = s.ctp.inbound ∧ t.ctp.outbound = s.ctp.outbound
          ∧ Next (exec i t) fun v =>
            v.ctp.inbound = others ++ [⟨tag, code, body, true⟩] ∧ v.ctp.outbound.dropLast = s.ctp.outbound
              ∧ (v.ctp.outbound.getLast?).any (fun f => f.kind == .reply && f.tag == tag) = true)

/-- COND_CLEAR clears the named conditions and reports the set before and after. COND_MASK replaces the mask, and a notice
becomes pending when a condition that is set becomes enabled (newly enabled: log entry 35). TIME_SET makes the UTC
base the second given and the present ship time. LAMP_SET forces a pattern from its lit part on, or returns the lamp
to automatic; an unlisted pattern is BAD_ARG. Nothing else changes. (R184, R185, R191, R94) -/
def Obligations.ConditionRequests : Prop :=
  ∀ (s : State) (tag : Nat) (m : CondSet) (seconds pattern : Nat),
    tag < 256 →
    seconds < 4294967296 →
    pattern < 256 →
    (Ready 0x63 s →
      Replies (exec (.condClear tag m) s) tag 0x63 (be 2 m.toNat) .ok
        (be 2 s.ctp.conditions.toNat ++ be 2 (s.ctp.conditions &&& ~~~m).toNat)
        { s with ctp := { s.ctp with conditions := s.ctp.conditions &&& ~~~m } })
    ∧ (Ready 0x64 s →
      Replies (exec (.condMask tag m) s) tag 0x64 (be 2 m.toNat) .ok []
        { s with
          ctp :=
            { s.ctp with
              mask := m
              noticePending := s.ctp.noticePending || (s.ctp.conditions &&& m &&& ~~~s.ctp.mask) != 0#16 } })
    ∧ (Ready 0x62 s →
      Replies (exec (.timeSet tag seconds) s) tag 0x62 (be 4 seconds) .ok []
        { s with ctp := { s.ctp with utc := some ⟨seconds, s.shipTime⟩ } })
    ∧ (Ready 0x23 s →
      match lampMode pattern with
      | none => Replies (exec (.lampSet tag pattern) s) tag 0x23 (be 1 pattern) .badArg [] s
      | some (some p) =>
        Replies (exec (.lampSet tag pattern) s) tag 0x23 (be 1 pattern) .ok []
          { s with duc := { s.duc with lamp := ⟨some p, p, s.shipTime⟩ } }
      | some none =>
        Replies (exec (.lampSet tag pattern) s) tag 0x23 (be 1 pattern) .ok []
          { s with duc := { s.duc with lamp := ⟨none, s.duc.lamp.pattern, s.duc.lamp.since⟩ } })

/-- CODE_SET makes the code absent for eight zero bytes and otherwise sets it; the port stays UNLOCKED and the mismatch
count becomes 0. UNLOCK is LOCKED while the lockout timer runs, OK without effect with no code, unlocks on the right
code, and on a wrong one counts it and locks, the third wrong code starting the 60 s lockout. LOCK needs a code. The
expiry of the lockout timer clears the count. The ship time raised to the deadline at an expiry, and that a stopped
timer does not expire, are the model's choice, log entry 3. (R186, R187) -/
def Obligations.OperatorCode : Prop :=
  ∀ (s : State) (tag : Nat) (code : Code),
    tag < 256 →
    (Ready 0x68 s →
      Replies (exec (.codeSet tag code) s) tag 0x68 (be 8 code.toNat) .ok []
        { s with ctp := { s.ctp with code := if code = 0#64 then none else some code, mismatches := 0 } })
    ∧ (Ready 0x66 s → s.ctp.lockoutTimer.isSome = true →
      Replies (exec (.unlock tag code) s) tag 0x66 (be 8 code.toNat) .locked [] s)
    ∧ (Ready 0x66 s → s.ctp.lockoutTimer = none → s.ctp.code = none →
      Replies (exec (.unlock tag code) s) tag 0x66 (be 8 code.toNat) .ok [] s)
    ∧ (Ready 0x66 s → s.ctp.lockoutTimer = none → s.ctp.code = some code →
      Replies (exec (.unlock tag code) s) tag 0x66 (be 8 code.toNat) .ok []
        { s with ctp := { s.ctp with locked := false, mismatches := 0 } })
    ∧ (Ready 0x66 s → s.ctp.lockoutTimer = none → s.ctp.code.isSome = true → s.ctp.code ≠ some code → s.ctp.mismatches ≤ 1 →
      Replies (exec (.unlock tag code) s) tag 0x66 (be 8 code.toNat) .locked []
        { s with ctp := { s.ctp with locked := true, mismatches := s.ctp.mismatches + 1 } })
    ∧ (Ready 0x66 s → s.ctp.lockoutTimer = none → s.ctp.code.isSome = true → s.ctp.code ≠ some code → 2 ≤ s.ctp.mismatches →
      Replies (exec (.unlock tag code) s) tag 0x66 (be 8 code.toNat) .locked []
        { s with ctp := { s.ctp with locked := true, mismatches := 3, lockoutTimer := some (s.shipTime + 60000) } })
    ∧ (Ready 0x67 s →
      match s.ctp.code with
      | none => Replies (exec (.lock tag) s) tag 0x67 [] .state [] s
      | some _ => Replies (exec (.lock tag) s) tag 0x67 [] .ok [] { s with ctp := { s.ctp with locked := true } })
    ∧ (match s.ctp.lockoutTimer with
      | none => Becomes (exec .lockoutTimerExpiry s) s
      | some d =>
        Becomes (exec .lockoutTimerExpiry s)
          { s with shipTime := max s.shipTime d, ctp := { s.ctp with lockoutTimer := none, mismatches := 0 } })

/-- LOAD_BEGIN with a listed kind and a total length of 1 to 16,384 opens a load with nothing written, abandoning any open
one; else BAD_ARG. LOAD_DATA is STATE while no load is open and BAD_ARG beyond the total length; otherwise the staged
bytes at its offsets are the ones given, every other offset keeps what was staged or stays unwritten, the canonical
form is kept and the count of written offsets is reported. (R188) -/
def Obligations.StagedLoad : Prop :=
  ∀ (s : State) (tag kind total checksum offset : Nat) (bytes : List Byte),
    tag < 256 →
    kind < 256 →
    total < 65536 →
    checksum < 4294967296 →
    offset < 65536 →
    bytes.length ≤ 1022 →
    (Ready 0x69 s →
      match TableKind.ofNumber kind with
      | none => Replies (exec (.loadBegin tag kind total checksum) s) tag 0x69 (be 1 kind ++ be 2 total
        ++ be 4 checksum) .badArg [] s
      | some k =>
        if 1 ≤ total ∧ total ≤ 16384 then
          Replies (exec (.loadBegin tag kind total checksum) s) tag 0x69 (be 1 kind ++ be 2 total ++ be 4 checksum) .ok []
            { s with ctp := { s.ctp with load := some ⟨k, total, checksum, []⟩ } }
        else Replies (exec (.loadBegin tag kind total checksum) s) tag 0x69 (be 1 kind ++ be 2 total
          ++ be 4 checksum) .badArg [] s)
    ∧ (Ready 0x6A s →
      match s.ctp.load with
      | none => Replies (exec (.loadData tag offset bytes) s) tag 0x6A (be 2 offset ++ bytes) .state [] s
      | some l =>
        (l.total < offset + bytes.length →
          Replies (exec (.loadData tag offset bytes) s) tag 0x6A (be 2 offset ++ bytes) .badArg [] s)
        ∧ (offset + bytes.length ≤ l.total →
          Replies (exec (.loadData tag offset bytes) s) tag 0x6A (be 2 offset ++ bytes) .ok
            (be 2 (Staging.write l.cells offset bytes).length)
            { s with ctp := { s.ctp with load := some { l with cells := Staging.write l.cells offset bytes } } })
        ∧ (∀ o : Nat,
          Staging.read (Staging.write l.cells offset bytes) o
            = if offset ≤ o ∧ o < offset + bytes.length then bytes[o - offset]? else Staging.read l.cells o)
        ∧ (Staging.wf l.cells → Staging.wf (Staging.write l.cells offset bytes)))

/-- With no load open LOAD_COMMIT is STATE. Otherwise the load closes: where the written offsets do not cover the total
length or the sum differs, LOAD_MISMATCH with the count and the sum; where the table fails its checks, LOAD_INVALID;
and a valid home group table becomes live, while a valid tariff or partner table becomes the next generation modulo
256, whose number is reported and whose opening is delivered to the EPC, a partner table's re-evaluation being
delivered to the RGE as well. (R189, R98, R120, R152, R139) -/
def Obligations.LoadCommitOutcomes : Prop :=
  ∀ (s : State) (tag : Nat),
    tag < 256 →
    Ready 0x6B s →
    (s.ctp.load = none → Replies (exec (.loadCommit tag) s) tag 0x6B [] .state [] s)
    ∧ (∀ l ∈ s.ctp.load, ¬(l.cells.length = l.total ∧ Staging.sum l.cells = l.checksum) →
      Replies (exec (.loadCommit tag) s) tag 0x6B [] .loadMismatch (be 2 l.cells.length ++ be 4 (Staging.sum l.cells))
        { s with ctp := { s.ctp with load := none } })
    ∧ (∀ l ∈ s.ctp.load, l.cells.length = l.total → Staging.sum l.cells = l.checksum →
      match l.kind with
      | .zone =>
        zoneTableOf (l.cells.map Prod.snd) = none →
          Replies (exec (.loadCommit tag) s) tag 0x6B [] .loadInvalid [] { s with ctp := { s.ctp with load := none } }
      | .homeGroup =>
        (match homeGroupTableOf (l.cells.map Prod.snd) with
        | none => Replies (exec (.loadCommit tag) s) tag 0x6B [] .loadInvalid [] { s with ctp := { s.ctp with load := none } }
        | some t =>
          Replies (exec (.loadCommit tag) s) tag 0x6B [] .ok []
            { s with ctp := { s.ctp with load := none }, sbt := { s.sbt with patterns := some t } })
      | .tariff =>
        (match tariffTableOf (l.cells.map Prod.snd) with
        | none => Replies (exec (.loadCommit tag) s) tag 0x6B [] .loadInvalid [] { s with ctp := { s.ctp with load := none } }
        | some t =>
          Replies (exec (.loadCommit tag) s) tag 0x6B [] .ok (be 1 ((s.newestTariff.number + 1) % 256))
            { s with
              ctp := { s.ctp with load := none }
              rte := { s.rte with generations := s.rte.generations ++ [⟨(s.newestTariff.number + 1) % 256, some t⟩] }
              mail := { s.mail with epc := s.mail.epc ++ [.tariffLoad] } })
      | .partner =>
        (match partnerTableOf (l.cells.map Prod.snd) with
        | none => Replies (exec (.loadCommit tag) s) tag 0x6B [] .loadInvalid [] { s with ctp := { s.ctp with load := none } }
        | some t =>
          Replies (exec (.loadCommit tag) s) tag 0x6B [] .ok (be 1 ((s.newestPartner.number + 1) % 256))
            { s with
              ctp := { s.ctp with load := none }
              rge := { s.rge with generations := s.rge.generations ++ [⟨(s.newestPartner.number + 1) % 256, some t⟩] }
              mail := { s.mail with epc := s.mail.epc ++ [.partnerLoad], rge := s.mail.rge + 1 } }))

/-- A valid zone table replaces the live one and the candidate is dropped. If the current index is present with the same
kind, jurisdiction, service, link kinds and beacon, nothing more happens; if one of them differs, there is a zone
change to the same index with cause TABLE; and if the index is gone, a zone change to the default zone, the forced
state ending unless the forced index is still present. (R4, R9, R189) -/
def Obligations.ZoneTableCommit : Prop :=
  ∀ (s : State) (tag : Nat) (l : Load) (t : ZoneTable),
    tag < 256 →
    Ready 0x6B s →
    s.ctp.load = some l →
    l.cells.length = l.total →
    Staging.sum l.cells = l.checksum →
    l.kind = .zone →
    zoneTableOf (l.cells.map Prod.snd) = some t →
    (match Assoc.get t.zones s.pzu.current with
      | some z =>
        (z.kind = s.zone.kind ∧ z.jurisdiction = s.zone.jurisdiction ∧ z.service = s.zone.service ∧ z.kinds = s.zone.kinds
            ∧ z.beacon = s.zone.beacon →
          Replies (exec (.loadCommit tag) s) tag 0x6B [] .ok []
            { s with
              ctp := { s.ctp with load := none }
              pzu := { s.pzu with table := some t, candidate := none, confirmCount := 0 } })
        ∧ (¬(z.kind = s.zone.kind ∧ z.jurisdiction = s.zone.jurisdiction ∧ z.service = s.zone.service ∧ z.kinds = s.zone.kinds
            ∧ z.beacon = s.zone.beacon) →
          Replies (exec (.loadCommit tag) s) tag 0x6B [] .ok []
            (changeZone .table s.pzu.current
              { s with ctp := { s.ctp with load := none }, pzu := { s.pzu with table := some t } }))
      | none =>
        Replies (exec (.loadCommit tag) s) tag 0x6B [] .ok []
          (changeZone .table t.defaultZone
            { s with
              ctp := { s.ctp with load := none }
              pzu :=
                { s.pzu with
                  table := some t
                  forced := s.pzu.forced.filter (fun i => (Assoc.get t.zones i).isSome) } }))

/-- An unknown setting is BAD_ARG. A numeric value is brought to the nearest bound and answered CLAMPED if it moved (a
ticket interval of 0 is kept), and an unlisted value of a listed setting is HELD with the previous value. The stored
value is reported, every other setting keeps its value, and a setting that has no effect at once changes nothing else.
A new reserve sets the pool at once, a changed watermark sets TICKET_WATERMARK exactly where it is at or below the
tickets queued, doze set from ON to OFF wakes every dozing cell, and doze set ON moves nothing, a changed retune
window dispatches from the head of the list up to it and never beyond (at or below the number in RETUNING nothing
moves), and a changed interval closes, with reason INTERVAL, exactly the open accumulators whose new deadline is
reached (contexts in rising order). A cell that is neither woken nor dispatched keeps its record but for the grant,
which the recomputations may move. A setting given the value it has changes nothing but the reply (R84 for doze; log
entry 32 for watermark, interval, retune window and reserve). A woken cell's idle timer on backup power, a quarter of
the idle time in whole seconds, is log entry 14. (R190, R176, R46, R84, R90, R175, R177) -/
def Obligations.Settings : Prop :=
  ∀ (s : State) (tag setting value : Nat),
    tag < 256 →
    setting < 256 →
    value < 4294967296 →
    (Ready 0x61 s →
      match Setting.ofNumber setting with
      | none => Replies (exec (.settingsGet tag setting) s) tag 0x61 (be 1 setting) .badArg [] s
      | some x => Replies (exec (.settingsGet tag setting) s) tag 0x61 (be 1 setting) .ok (be 4 (s.settings.value x)) s)
    ∧ (Ready 0x60 s →
      match Setting.ofNumber setting with
      | none => Replies (exec (.settingsSet tag setting value) s) tag 0x60 (be 1 setting ++ be 4 value) .badArg [] s
      | some x =>
        Next (exec (.settingsSet tag setting value) s) fun t =>
          (match x.listed with
            | some n =>
              if value < n then
                t.settings.value x = value ∧ Answered s t tag 0x60 (be 1 setting ++ be 4 value) .ok (be 4 value)
              else
                t.settings.value x = s.settings.value x
                  ∧ Answered s t tag 0x60 (be 1 setting ++ be 4 value) .held (be 4 (s.settings.value x))
            | none =>
              if (x = .interval ∧ value = 0) ∨ (x.range.1 ≤ value ∧ value ≤ x.range.2) then
                t.settings.value x = value ∧ Answered s t tag 0x60 (be 1 setting ++ be 4 value) .ok (be 4 value)
              else
                t.settings.value x = max x.range.1 (min x.range.2 value)
                  ∧ Answered s t tag 0x60 (be 1 setting ++ be 4 value) .clamped (be 4 (max x.range.1 (min x.range.2 value))))
          ∧ (∀ y : Setting, y ≠ x → t.settings.value y = s.settings.value y)
          ∧ (x ≠ .reserve → x ≠ .doze → x ≠ .retuneWindow → x ≠ .interval → x ≠ .watermark →
            t =
              refreshLamp
                { s with
                  settings := t.settings
                  ctp := { s.ctp with inbound := t.ctp.inbound, outbound := t.ctp.outbound } })
          ∧ (x = .doze ∨ x = .retuneWindow ∨ x = .reserve →
            t =
              { s with
                settings := t.settings
                ctp := { s.ctp with inbound := t.ctp.inbound, outbound := t.ctp.outbound }
                cap :=
                  { s.cap with
                    pool := if x = .reserve then t.cap.pool else s.cap.pool
                    pointer := t.cap.pointer
                    demandChanged := t.cap.demandChanged }
                duc := { s.duc with cells := t.duc.cells, retuneList := t.duc.retuneList, lamp := t.duc.lamp }
                ports := { s.ports with deck := t.ports.deck } })
          ∧ (x = .interval →
            OnlyCharging
              { s with
                settings := t.settings
                ctp := { s.ctp with inbound := t.ctp.inbound, outbound := t.ctp.outbound } } t)
          ∧ (x = .watermark →
            let u : State :=
              { s with
                settings := t.settings
                ctp := { s.ctp with inbound := t.ctp.inbound, outbound := t.ctp.outbound } }
            t =
              refreshLamp
                (if t.settings.watermark ≠ s.settings.watermark ∧ t.settings.watermark ≤ s.tkq.tickets.length then
                  setCond .ticketWatermark u
                else u))
          ∧ (t.settings.value x = s.settings.value x →
            t = refreshLamp { s with ctp := { s.ctp with inbound := t.ctp.inbound, outbound := t.ctp.outbound } })
          ∧ (x = .reserve → t.settings.reserve ≠ s.settings.reserve → t.cap.pool = s.cap.carried - t.settings.reserve)
          ∧ (x = .reserve → t.duc.retuneList = s.duc.retuneList
            ∧ ∀ c : CellId, t.cell c = { s.cell c with grant := (t.cell c).grant })
          ∧ (x = .doze → t.duc.retuneList = s.duc.retuneList
            ∧ (t.settings.doze = true → t =
              refreshLamp
                { s with
                  settings := t.settings
                  ctp := { s.ctp with inbound := t.ctp.inbound, outbound := t.ctp.outbound } })
            ∧ (s.settings.doze = true → t.settings.doze = false → ∀ c : CellId,
              if (s.cell c).state.dozing = true then
                t.cell c =
                    { s.cell c with
                      state := .serving
                      deepTimer := none
                      idleTimer :=
                        some
                          (s.shipTime
                            + 1000 * (if (s.cell c).power = .mains then s.settings.idleTime else s.settings.idleTime / 4))
                      grant := (t.cell c).grant }
                  ∧ (c, .wake) ∈ s.sentSince t
              else t.cell c = { s.cell c with grant := (t.cell c).grant }))
          ∧ (x = .retuneWindow →
            (t.settings.retuneWindow ≠ s.settings.retuneWindow →
              t.duc.retuneList = [] ∨ t.settings.retuneWindow ≤ t.retuningCount)
            ∧ t.retuningCount ≤ max s.retuningCount t.settings.retuneWindow
            ∧ (t.settings.retuneWindow ≤ s.retuningCount → t =
              refreshLamp
                { s with
                  settings := t.settings
                  ctp := { s.ctp with inbound := t.ctp.inbound, outbound := t.ctp.outbound } })
            ∧ (s.duc.retuneList.Nodup → t.duc.retuneList <:+ s.duc.retuneList)
            ∧ ∀ c : CellId,
              if c ∈ s.duc.retuneList ∧ c ∉ t.duc.retuneList then
                t.cell c =
                    { s.cell c with
                      state := .retuning
                      target := s.zone.beacon
                      idleTimer := none
                      deepTimer := none
                      retuneTimer := some (s.shipTime + 10000)
                      grant := (t.cell c).grant }
                  ∧ ((s.cell c).state.joined = true → (c, .retune s.zone.beacon s.newestEpoch.number) ∈ s.sentSince t)
              else t.cell c = { s.cell c with grant := (t.cell c).grant })
          ∧ (x = .interval → ContextsInOrder s → ∀ e ∈ s.sbt.contexts,
            if t.settings.interval ≠ s.settings.interval ∧ t.settings.interval ≠ 0
              ∧ (e.2.accumulator.any fun a => decide (a.start + 60000 * t.settings.interval ≤ s.shipTime)) = true then
              (t.context e.1).bind Context.accumulator = none
                ∧ (t.tkq.tickets.drop s.tkq.tickets.length).any (fun u => u.ctx == e.1 && u.reason == .interval) = true
            else t.context e.1 = some e.2))

/-- The reserve after reset is 4. SETTINGS_GET reads it. SETTINGS_SET brings the value into 1–64, answered CLAMPED where
it moved and OK otherwise; the pool is recomputed from the stored carried capacity, and where it changes, the grants
are recomputed. A reserve equal to or greater than the carried capacity gives a pool of 0, and a recomputation with a
pool of 0 gives every serving cell grant 0. The pool is taken to be what the old reserve leaves, as GrantLaw keeps it.
(R46) -/
def Obligations.ReserveSetting : Prop :=
  ∀ (s : State) (tag value : Nat) (c : CellId),
    tag < 256 →
    value < 4294967296 →
    s.cap.pool = s.cap.carried - s.settings.reserve →
    (State.reset.settings.reserve = 4)
    ∧ (Ready 0x61 s → Replies (exec (.settingsGet tag 9) s) tag 0x61 (be 1 9) .ok (be 4 s.settings.reserve) s)
    ∧ (Ready 0x60 s →
      Replies (exec (.settingsSet tag 9 value) s) tag 0x60 (be 1 9 ++ be 4 value) (if 1 ≤ value
        ∧ value ≤ 64 then .ok else .clamped)
        (be 4 (max 1 (min 64 value)))
        (if s.cap.carried - (max 1 (min 64 value)) = s.cap.pool then { s with settings := { s.settings with reserve := (max 1 (min 64 value)) } }
        else
          recompute
            { s with
              settings := { s.settings with reserve := (max 1 (min 64 value)) }
              cap := { s.cap with pool := s.cap.carried - (max 1 (min 64 value)) } }))
    ∧ (s.cap.carried ≤ (max 1 (min 64 value)) → s.cap.carried - (max 1 (min 64 value)) = 0)
    ∧ (s.cap.pool = 0 → (s.cell c).state = .serving → ((recompute s).cell c).grant = 0)

/-- STORE_SAVE while a write runs is BUSY; else the state becomes BUSY and the snapshot of what the store keeps is being
written. A successful completion makes the snapshot the copy and the state OK; a failed one leaves no valid copy and
the state ERROR; both set STORE_EVENT. Nothing else changes. That a completion with no write under way does nothing is
the model's choice, log entry 43. (R73, R192) -/
def Obligations.ConfigurationStore : Prop :=
  ∀ (s : State) (tag : Nat) (success : Bool),
    tag < 256 →
    (Ready 0x6C s →
      if s.cfs.state = .busy then Replies (exec (.storeSave tag) s) tag 0x6C [] .busy [] s
      else
        Replies (exec (.storeSave tag) s) tag 0x6C [] .ok []
          { s with
            cfs :=
              { s.cfs with
                state := .busy
                writing :=
                  some
                    { zones := s.pzu.table
                      partners := s.newestPartner.table
                      tariffs := s.newestTariff.table
                      patterns := s.sbt.patterns
                      settings := s.settings
                      code := s.ctp.code
                      links := Vector.ofFn fun l => (s.link l).cfg
                      disabled := Vector.ofFn fun c => (s.cell c).state == .disabled } } })
    ∧ (match s.cfs.writing with
      | none => Becomes (exec (.storeWriteCompletion success) s) s
      | some w =>
        Becomes (exec (.storeWriteCompletion success) s)
          (setCond .storeEvent { s with cfs := if success then ⟨.ok, some w, none⟩ else ⟨.error, none, none⟩ }))

/-- Without a valid copy the state is the reset state with the waiting commands kept (log entry 21). With one, the
settings, tables, operator code, link configuration and disabled cells are the stored ones; the port is LOCKED if a
code is stored; the current zone is the stored table's default or UNSET; enabled links are DOWN and the others OFF;
stored disabled cells are DISABLED and the others ABSENT; the ring holds epoch 0 of reason POWER_ON; generations are
number 0; and every queue, table, list, count and condition is empty or 0. (R193, R17, R43, R75, R137, R150, R167,
R179, R182, R187) -/
def Obligations.HardwareResets : Prop :=
  ∀ (s : State),
    (s.cfs.state = .busy ∨ s.cfs.copy = none → Becomes (exec .hardwareReset s) { State.reset with pending := s.pending })
    ∧ (s.cfs.state ≠ .busy → ∀ c ∈ s.cfs.copy,
      Next (exec .hardwareReset s) fun t =>
        t.shipTime = 0 ∧ t.settings = c.settings ∧ t.pending = s.pending
          ∧ t.ctp = { Ctp.start with code := c.code, locked := c.code.isSome }
          ∧ t.pzu =
            { table := c.zones
              current := (c.zones.map ZoneTable.defaultZone).getD 255
              forced := none
              candidate := none
              confirmCount := 0
              lastFix := none
              lastChange := none
              position := .none
              staleTimer := some (1000 * c.settings.staleTime) }
          ∧ t.epc = ⟨[Epoch.first ((c.zones.map ZoneTable.defaultZone).getD 255)], 0, 0, 0⟩
          ∧ (∀ l : LinkId, t.link l = Link.start (c.links.get l))
          ∧ t.lkm.dwellTimer = none ∧ t.lkm.probeTimer = some (1000 * c.settings.probePeriod) ∧ t.lkm.classHanded = none
          ∧ t.cap = ⟨0, 0, 0, false, some 2000⟩
          ∧ (∀ k : CellId, t.cell k = Cell.start (c.disabled.get k))
          ∧ t.duc.retuneList = [] ∧ t.duc.heldJoins = [] ∧ t.duc.lamp.forced = none
          ∧ t.sbt = ⟨[], c.patterns⟩ ∧ t.rge = ⟨[⟨0, c.partners⟩], [], [], 0, 0⟩ ∧ t.rte = ⟨[⟨0, c.tariffs⟩], [], 0, 0⟩
          ∧ t.tkq = ⟨[], 0, [], 0, ⟨0, 0, 0⟩⟩ ∧ t.cfs = ⟨.ok, some c, none⟩ ∧ t.ports = ⟨[], [], []⟩
          ∧ t.mail = ⟨[], [], [], 0, 0, [], []⟩)

/-- With a table live whose records stand in rising index order: a position inside no present zone names the default zone,
without overlap; otherwise the zone named covers the position, no covering zone has a higher priority, none of the
same priority has a lower index, and there is overlap exactly when another covering zone has that priority. With no
table live every position names UNSET. (R5) -/
def Obligations.ZoneMatching : Prop :=
  ∀ (s : State) (lat lon : Int),
    (match s.pzu.table with
      | none => s.matched lat lon = (255, false)
      | some t =>
        t.zones.Pairwise (fun a b => a.1 < b.1) →
          ((∀ e ∈ t.zones, e.2.covers lat lon = false) → s.matched lat lon = (t.defaultZone, false))
          ∧ (∀ e ∈ t.zones, e.2.covers lat lon = true →
            ∃ f ∈ t.zones,
              f.1 = (s.matched lat lon).1 ∧ f.2.covers lat lon = true
                ∧ (∀ g ∈ t.zones, g.2.covers lat lon = true →
                  g.2.priority < f.2.priority ∨ (g.2.priority = f.2.priority ∧ f.1 ≤ g.1))
                ∧ ((s.matched lat lon).2 = true
                  ↔ ∃ g ∈ t.zones, g.1 ≠ f.1 ∧ g.2.covers lat lon = true ∧ g.2.priority = f.2.priority)))

/-- A latitude or longitude out of range, or a quality above 2, is BAD_ARG without effect. Quality 0 is OK without effect.
Quality 1, and quality 2 while the PZU is forced, are OK: the last fix record holds the fix, its ship time and the
zone it names, the position is FRESH, the stale timer is re-armed, and ZONE_OVERLAP is set on a tie. Nothing else
changes. Quality 2 taken while the PZU is not forced, ZONE_OVERLAP being set on a tie as well: a fix that names the
current zone drops the candidate; one that names another zone raises the count for the candidate, or makes it the
candidate with count 1; below the threshold that is all, and at the threshold the current zone becomes the named one
with cause FIX, the last change record is replaced, the candidate is dropped, ZONE_CHANGED is set and the change is
delivered to the EPC, LKM, DUC, and to the RGE or the SBT as the new zone allows service or not (log entry 17). The
ship time of the fix is that at which the request is taken (log entry 38). (R6, R10, R14, R5, R7, R9) -/
def Obligations.Fixes : Prop :=
  ∀ (s : State) (tag : Nat) (lat lon : Int) (quality fixTime : Nat),
    tag < 256 →
    quality < 256 →
    fixTime < 4294967296 →
    Ready 0x01 s →
    (¬(-9000000 ≤ lat ∧ lat ≤ 9000000 ∧ -18000000 ≤ lon ∧ lon ≤ 18000000 ∧ quality ≤ 2) →
      Replies (exec (.fix tag lat lon quality fixTime) s) tag 0x01 (fixBody lat lon quality fixTime) .badArg [] s)
    ∧ (-9000000 ≤ lat ∧ lat ≤ 9000000 ∧ -18000000 ≤ lon ∧ lon ≤ 18000000 → quality = 0 →
      Replies (exec (.fix tag lat lon quality fixTime) s) tag 0x01 (fixBody lat lon quality fixTime) .ok [] s)
    ∧ (-9000000 ≤ lat ∧ lat ≤ 9000000 ∧ -18000000 ≤ lon ∧ lon ≤ 18000000 →
      quality = 1 ∨ (quality = 2 ∧ s.pzu.forced.isSome = true) →
      Replies (exec (.fix tag lat lon quality fixTime) s) tag 0x01 (fixBody lat lon quality fixTime) .ok []
        (if (s.matched lat lon).2 = true then
          setCond .zoneOverlap
            { s with
              pzu :=
                { s.pzu with
                  lastFix := some ⟨lat, lon, quality, fixTime, s.shipTime, (s.matched lat lon).1⟩
                  position := .fresh
                  staleTimer := some (s.shipTime + 1000 * s.settings.staleTime) } }
        else
          { s with
              pzu :=
                { s.pzu with
                  lastFix := some ⟨lat, lon, quality, fixTime, s.shipTime, (s.matched lat lon).1⟩
                  position := .fresh
                  staleTimer := some (s.shipTime + 1000 * s.settings.staleTime) } }))
    ∧ ((s.pzu.forced = none) → (-9000000 ≤ lat ∧ lat ≤ 9000000 ∧ -18000000 ≤ lon ∧ lon ≤ 18000000) →
      ((s.matched lat lon).1 = s.pzu.current →
      let u := if (s.matched lat lon).2 = true then setCond .zoneOverlap s else s
      Replies (exec (.fix tag lat lon 2 fixTime) s) tag 0x01 (fixBody lat lon 2 fixTime) .ok []
        { u with
          pzu :=
            { s.pzu with
              candidate := none
              confirmCount := 0
              lastFix := some ⟨lat, lon, 2, fixTime, s.shipTime, (s.matched lat lon).1⟩
              position := .fresh
              staleTimer := some (s.shipTime + 1000 * s.settings.staleTime) } }))
    ∧ ((s.pzu.forced = none) → (-9000000 ≤ lat ∧ lat ≤ 9000000 ∧ -18000000 ≤ lon ∧ lon ≤ 18000000) →
      ((s.matched lat lon).1 ≠ s.pzu.current →
      (if s.pzu.candidate = some (s.matched lat lon).1 then s.pzu.confirmCount + 1 else 1) < s.settings.confirmThreshold →
      let u := if (s.matched lat lon).2 = true then setCond .zoneOverlap s else s
      Replies (exec (.fix tag lat lon 2 fixTime) s) tag 0x01 (fixBody lat lon 2 fixTime) .ok []
        { u with
          pzu :=
            { s.pzu with
              candidate := some (s.matched lat lon).1
              confirmCount := if s.pzu.candidate = some (s.matched lat lon).1 then s.pzu.confirmCount + 1 else 1
              lastFix := some ⟨lat, lon, 2, fixTime, s.shipTime, (s.matched lat lon).1⟩
              position := .fresh
              staleTimer := some (s.shipTime + 1000 * s.settings.staleTime) } }))
    ∧ ((s.pzu.forced = none) → (-9000000 ≤ lat ∧ lat ≤ 9000000 ∧ -18000000 ≤ lon ∧ lon ≤ 18000000) →
      ((s.matched lat lon).1 ≠ s.pzu.current →
      s.settings.confirmThreshold ≤ (if s.pzu.candidate = some (s.matched lat lon).1 then s.pzu.confirmCount + 1 else 1) →
      let u := if (s.matched lat lon).2 = true then setCond .zoneOverlap s else s
      Replies (exec (.fix tag lat lon 2 fixTime) s) tag 0x01 (fixBody lat lon 2 fixTime) .ok []
        (setCond .zoneChanged
          { u with
            pzu :=
              { s.pzu with
                current := (s.matched lat lon).1
                candidate := none
                confirmCount := 0
                lastChange := some ⟨.fix, s.pzu.current, (s.matched lat lon).1, s.shipTime⟩
                lastFix := some ⟨lat, lon, 2, fixTime, s.shipTime, (s.matched lat lon).1⟩
                position := .fresh
                staleTimer := some (s.shipTime + 1000 * s.settings.staleTime) }
            mail :=
              { s.mail with
                epc := s.mail.epc ++ [.zone]
                lkm := s.mail.lkm ++ [⟨(s.matched lat lon).1, (s.zoneRecord (s.matched lat lon).1).getD unsetZone⟩]
                duc := s.mail.duc ++ [⟨(s.matched lat lon).1, (s.zoneRecord (s.matched lat lon).1).getD unsetZone⟩]
                sbt :=
                  if ((s.zoneRecord (s.matched lat lon).1).getD unsetZone).service = true then s.mail.sbt
                  else s.mail.sbt + 1
                rge :=
                  if ((s.zoneRecord (s.matched lat lon).1).getD unsetZone).service = true then s.mail.rge + 1
                  else s.mail.rge } })))

/-- ZONE_FORCE of an index without a present zone is NOT_FOUND. Otherwise the PZU is forced on it and the candidate
dropped; where it is not the current zone, the zone changes with cause FORCE: the change record, ZONE_CHANGED and the
deliveries follow. ZONE_RELEASE ends the forced state and drops the candidate, and is STATE where nothing is forced.
At the stale timer's expiry the position is STALE, POSITION_STALE is set and the timer stops; all else but the ship
time is kept. The delivery of a zone change to the SBT or to the RGE, as the new zone has service off or on, is log
entry 17. The ship time raised to the deadline at an expiry, and that a stopped timer does not expire, are the model's
choice, log entry 3. (R11, R13, R15, R9) -/
def Obligations.ForcedZonesAndStalePosition : Prop :=
  ∀ (s : State) (tag zone : Nat),
    tag < 256 →
    zone < 256 →
    (Ready 0x02 s → s.zoneRecord zone = none →
      Replies (exec (.zoneForce tag zone) s) tag 0x02 (be 1 zone) .notFound [] s)
    ∧ (Ready 0x02 s → (s.zoneRecord zone).isSome = true → zone = s.pzu.current →
      Replies (exec (.zoneForce tag zone) s) tag 0x02 (be 1 zone) .ok []
        { s with pzu := { s.pzu with forced := some zone, candidate := none, confirmCount := 0 } })
    ∧ (Ready 0x02 s → ∀ z ∈ s.zoneRecord zone, zone ≠ s.pzu.current →
      Replies (exec (.zoneForce tag zone) s) tag 0x02 (be 1 zone) .ok []
        (setCond .zoneChanged
          { s with
            pzu :=
              { s.pzu with
                forced := some zone
                current := zone
                candidate := none
                confirmCount := 0
                lastChange := some ⟨.force, s.pzu.current, zone, s.shipTime⟩ }
            mail :=
              { s.mail with
                epc := s.mail.epc ++ [.zone]
                lkm := s.mail.lkm ++ [⟨zone, z⟩]
                duc := s.mail.duc ++ [⟨zone, z⟩]
                sbt := if z.service = true then s.mail.sbt else s.mail.sbt + 1
                rge := if z.service = true then s.mail.rge + 1 else s.mail.rge } }))
    ∧ (Ready 0x03 s →
      match s.pzu.forced with
      | none => Replies (exec (.zoneRelease tag) s) tag 0x03 [] .state [] s
      | some _ =>
        Replies (exec (.zoneRelease tag) s) tag 0x03 [] .ok []
          { s with pzu := { s.pzu with forced := none, candidate := none, confirmCount := 0 } })
    ∧ (match s.pzu.staleTimer with
      | none => Becomes (exec .staleTimerExpiry s) s
      | some d =>
        Becomes (exec .staleTimerExpiry s)
          (setCond .positionStale
            { s with shipTime := max s.shipTime d, pzu := { s.pzu with position := .stale, staleTimer := none } }))

/-- LINK_ENABLE is BAD_ARG for a link index above 5 or a kind that is none of the three and STATE for a link that is not
OFF; otherwise OK: the kind is set, Enabled becomes yes, the last STATUS is absent, its age 0, the link enters DOWN
with its entry actions, and selection runs. LINK_DISABLE is BAD_ARG above 5 and OK without effect for an OFF link;
otherwise OK: an ENGAGING or CARRYING link is sent RELEASE, Enabled becomes no and the link enters OFF, a link that
carried brings R40, one that carried or drained is reported to the RGE, and selection runs. LINK_SET: A link index
above 5 is BAD_ARG. Otherwise the ceiling is brought into 1–16,383 and the bonus into 0–50, CLAMPED if either moved; a
held capacity above the new ceiling is lowered to it and never raised; a CARRYING link whose effective capacity
changes has it handed to the CAP; and selection runs. That BAD_ARG is answered before STATE where both hold is log
entry 45. (R20, R22, R21) -/
def Obligations.LinkRequests : Prop :=
  ∀ (s : State) (tag : Nat) (l : LinkId) (k : LinkKind) (link kind ceiling bonus : Nat),
    tag < 256 →
    link < 256 →
    kind < 256 →
    ceiling < 65536 →
    bonus < 256 →
    (Ready 0x10 s → 5 < link ∨ kind = 0 ∨ 3 < kind →
      Replies (exec (.linkEnable tag link kind) s) tag 0x10 (be 1 link ++ be 1 kind) .badArg [] s)
    ∧ (Ready 0x10 s → (s.link l).state ≠ .off →
      Replies (exec (.linkEnable tag l.val k.number) s) tag 0x10 (be 1 l.val ++ be 1 k.number) .state [] s)
    ∧ (Ready 0x10 s → (s.link l).state = .off →
      Replies (exec (.linkEnable tag l.val k.number) s) tag 0x10 (be 1 l.val ++ be 1 k.number) .ok []
        (select
          (setLink l
            { s.link l with
              cfg := { (s.link l).cfg with enabled := true, kind := k }
              last := none
              statusAge := 0
              state := .down
              goodEchoes := 0
              misses := 0
              lowQuality := 0
              probeOut := false
              carryTimer := none
              drainTimer := none
              holdOffTimer := none } s)))
    ∧ (Ready 0x11 s → 5 < link → Replies (exec (.linkDisable tag link) s) tag 0x11 (be 1 link) .badArg [] s)
    ∧ (Ready 0x11 s → (s.link l).state = .off → Replies (exec (.linkDisable tag l.val) s) tag 0x11 (be 1 l.val) .ok [] s)
    ∧ (Ready 0x11 s → (s.link l).state ≠ .off → (s.link l).state ≠ .carrying → (s.link l).state ≠ .draining →
      Replies (exec (.linkDisable tag l.val) s) tag 0x11 (be 1 l.val) .ok []
        (select
          (setLink l
            { s.link l with
              cfg := { (s.link l).cfg with enabled := false }
              state := .off
              last := none
              goodEchoes := 0
              misses := 0
              lowQuality := 0
              probeOut := false
              carryTimer := none
              drainTimer := none
              holdOffTimer := none }
            (if (s.link l).state = .engaging then sendTerminal l .release s else s))))
    ∧ (Ready 0x11 s → (s.link l).state = .carrying →
      Replies (exec (.linkDisable tag l.val) s) tag 0x11 (be 1 l.val) .ok []
        (select
          (linkDeparted l
            (carryingChanged
              (setLink l
                { s.link l with
                  cfg := { (s.link l).cfg with enabled := false }
                  state := .off
                  last := none
                  goodEchoes := 0
                  misses := 0
                  lowQuality := 0
                  probeOut := false
                  carryTimer := none
                  drainTimer := none
                  holdOffTimer := none }
                (sendTerminal l .release s))))))
    ∧ (Ready 0x11 s → (s.link l).state = .draining →
      Replies (exec (.linkDisable tag l.val) s) tag 0x11 (be 1 l.val) .ok []
        (select
          (linkDeparted l
            (setLink l
              { s.link l with
                cfg := { (s.link l).cfg with enabled := false }
                state := .off
                last := none
                goodEchoes := 0
                misses := 0
                lowQuality := 0
                probeOut := false
                carryTimer := none
                drainTimer := none
                holdOffTimer := none } s))))
    ∧ (Ready 0x12 s → 5 < link →
      Replies (exec (.linkSet tag link ceiling bonus) s) tag 0x12 (be 1 link ++ be 2 ceiling ++ be 1 bonus) .badArg [] s)
    ∧ (Ready 0x12 s →
      Replies (exec (.linkSet tag l.val ceiling bonus) s) tag 0x12 (be 1 l.val ++ be 2 ceiling ++ be 1 bonus)
        (if 1 ≤ ceiling ∧ ceiling ≤ 16383 ∧ bonus ≤ 50 then .ok else .clamped) []
        (select
          (setLink l
            { s.link l with
              cfg := { (s.link l).cfg with ceiling := max 1 (min 16383 ceiling), bonus := min 50 bonus }
              last := (s.link l).last.map (fun r => { r with capacity := min (max 1 (min 16383 ceiling)) r.capacity }) }
            (if (s.link l).state = .carrying ∧ (s.link l).last.any (fun r => max 1 (min 16383 ceiling) < r.capacity) = true then
              { s with mail := { s.mail with cap := s.mail.cap ++ [max 1 (min 16383 ceiling)] } }
            else s))))

/-- A STATUS for a link that is not OFF is recorded with quality at most 100 and capacity at most the ceiling, and its age
becomes 0. By state: carrier brings DOWN to PROBING; no carrier brings PROBING, READY, ENGAGING and CARRYING to DOWN
(log entry 13: the low quality count stays 0); the third STATUS in a row below the exit threshold brings READY to
PROBING and ENGAGING and CARRYING to DRAINING with RELEASE; a PROBING link with three good echoes and quality at the
entry threshold becomes READY; DRAINING and FAULT stay. A link that leaves CARRYING brings R40, one that leaves for
DOWN is reported to the RGE, a changed capacity of the carrying link is handed on, and selection runs. (R24, R25, R26,
R29, R40, R41) -/
def Obligations.StatusFrames : Prop :=
  ∀ (s : State) (l : LinkId) (carrier quality latency capacity : Nat),
    carrier ≤ 1 →
    quality < 256 →
    latency < 65536 →
    capacity < 65536 →
    ((s.link l).state = .off → Becomes (exec (.status l.val carrier quality latency capacity) s) s)
    ∧ ((s.link l).state = .down → carrier = 0 →
      Becomes (exec (.status l.val carrier quality latency capacity) s)
        (select
          (setLink l
            { s.link l with
              last := some ⟨carrier == 1, min 100 quality, latency, min (s.link l).cfg.ceiling capacity⟩
              statusAge := 0
              lowQuality := (s.lowRun l quality) } s)))
    ∧ ((s.link l).state = .down → carrier = 1 →
      Becomes (exec (.status l.val carrier quality latency capacity) s)
        (select
          (setLink l
            { s.link l with
              last := some ⟨carrier == 1, min 100 quality, latency, min (s.link l).cfg.ceiling capacity⟩
              statusAge := 0
              state := .probing
              goodEchoes := 0
              drainTimer := none
              holdOffTimer := none
              lowQuality := if min 100 quality < s.settings.exitThreshold then 1 else 0 } s)))
    ∧ ((s.link l).state = .probing ∨ (s.link l).state = .ready ∨ (s.link l).state = .engaging → carrier = 0 →
      Becomes (exec (.status l.val carrier quality latency capacity) s)
        (select
          (setLink l
            { s.link l with
              last := some ⟨carrier == 1, min 100 quality, latency, min (s.link l).cfg.ceiling capacity⟩
              statusAge := 0
              state := .down
              goodEchoes := 0
              misses := 0
              lowQuality := 0
              probeOut := false
              carryTimer := none
              drainTimer := none
              holdOffTimer := none } s)))
    ∧ ((s.link l).state = .carrying → carrier = 0 →
      Becomes (exec (.status l.val carrier quality latency capacity) s)
        (select
          (linkDeparted l
            (carryingChanged
              (setLink l
                { s.link l with
                  last := some ⟨carrier == 1, min 100 quality, latency, min (s.link l).cfg.ceiling capacity⟩
                  statusAge := 0
                  state := .down
                  goodEchoes := 0
                  misses := 0
                  lowQuality := 0
                  probeOut := false
                  carryTimer := none
                  drainTimer := none
                  holdOffTimer := none } s)))))
    ∧ ((s.link l).state = .probing → carrier = 1 →
      Becomes (exec (.status l.val carrier quality latency capacity) s)
        (select
          (setLink l
            (if 3 ≤ (s.link l).goodEchoes ∧ s.settings.entryThreshold ≤ min 100 quality then
              { s.link l with
                last := some ⟨carrier == 1, min 100 quality, latency, min (s.link l).cfg.ceiling capacity⟩
                statusAge := 0
                state := .ready
                lowQuality := 0
                drainTimer := none
                holdOffTimer := none }
            else
              { s.link l with
                last := some ⟨carrier == 1, min 100 quality, latency, min (s.link l).cfg.ceiling capacity⟩
                statusAge := 0
                lowQuality := (s.lowRun l quality) }) s)))
    ∧ ((s.link l).state = .ready → carrier = 1 → (s.lowRun l quality) < 3 →
      Becomes (exec (.status l.val carrier quality latency capacity) s)
        (select
          (setLink l
            { s.link l with
              last := some ⟨carrier == 1, min 100 quality, latency, min (s.link l).cfg.ceiling capacity⟩
              statusAge := 0
              lowQuality := (s.lowRun l quality) } s)))
    ∧ ((s.link l).state = .ready → carrier = 1 → 3 ≤ (s.lowRun l quality) →
      Becomes (exec (.status l.val carrier quality latency capacity) s)
        (select
          (setLink l
            { s.link l with
              last := some ⟨carrier == 1, min 100 quality, latency, min (s.link l).cfg.ceiling capacity⟩
              statusAge := 0
              state := .probing
              goodEchoes := 0
              lowQuality := 0
              drainTimer := none
              holdOffTimer := none } s)))
    ∧ ((s.link l).state = .engaging ∨ (s.link l).state = .carrying → carrier = 1 → (s.lowRun l quality) < 3 →
      Becomes (exec (.status l.val carrier quality latency capacity) s)
        (select
          (setLink l
            { s.link l with
              last := some ⟨carrier == 1, min 100 quality, latency, min (s.link l).cfg.ceiling capacity⟩
              statusAge := 0
              lowQuality := (s.lowRun l quality) }
            (if (s.link l).state = .carrying ∧ min (s.link l).cfg.ceiling capacity ≠ (s.link l).capacity then
              { s with mail := { s.mail with cap := s.mail.cap ++ [min (s.link l).cfg.ceiling capacity] } }
            else s))))
    ∧ ((s.link l).state = .engaging → carrier = 1 → 3 ≤ (s.lowRun l quality) →
      Becomes (exec (.status l.val carrier quality latency capacity) s)
        (select
          (sendTerminal l .release
            (setLink l
              { s.link l with
                last := some ⟨carrier == 1, min 100 quality, latency, min (s.link l).cfg.ceiling capacity⟩
                statusAge := 0
                state := .draining
                goodEchoes := 0
                misses := 0
                probeOut := false
                carryTimer := none
                holdOffTimer := none
                lowQuality := (s.lowRun l quality)
                drainTimer := some (s.shipTime + 1000 * s.settings.drainLimit) } s))))
    ∧ ((s.link l).state = .carrying → carrier = 1 → 3 ≤ (s.lowRun l quality) →
      Becomes (exec (.status l.val carrier quality latency capacity) s)
        (select
          (carryingChanged
            (sendTerminal l .release
              (setLink l
                { s.link l with
                  last := some ⟨carrier == 1, min 100 quality, latency, min (s.link l).cfg.ceiling capacity⟩
                  statusAge := 0
                  state := .draining
                  goodEchoes := 0
                  misses := 0
                  probeOut := false
                  carryTimer := none
                  holdOffTimer := none
                  lowQuality := (s.lowRun l quality)
                  drainTimer := some (s.shipTime + 1000 * s.settings.drainLimit) } s)))))
    ∧ ((s.link l).state = .draining ∨ (s.link l).state = .fault →
      Becomes (exec (.status l.val carrier quality latency capacity) s)
        (select
          (setLink l
            { s.link l with
              last := some ⟨carrier == 1, min 100 quality, latency, min (s.link l).cfg.ceiling capacity⟩
              statusAge := 0
              lowQuality := (s.lowRun l quality) } s)))

/-- An ECHO with the sequence of the probe outstanding clears it and the misses and counts a good echo; a PROBING link
with three and quality at the entry threshold enters READY and selection runs. Any other ECHO changes nothing. At the
probe timer's expiry the timer is re-armed; a probe outstanding is a miss, and the third puts the link in FAULT for 30
s; every other link that is not OFF ages by one period; and every link in PROBING, READY, ENGAGING or CARRYING gets
the next PROBE, after which selection may only engage a READY link. Links in DOWN, DRAINING, FAULT or OFF are sent
nothing; a probed link that does not carry is sent its PROBE, with CARRY after it where it enters ENGAGING, or, at its
third miss, RELEASE alone where it was ENGAGING, and nothing else; a carrying link is sent RELEASE at its third miss
and its PROBE otherwise. The control port gives nothing. Where no link that carries or drains fails, only the links,
conditions, the lamp and terminal frames change, and the class last handed stays; where one does, the registrations it
brings to an end may also move contexts and send deck frames (R130). The ship time raised to the deadline at an
expiry, and that a stopped timer does not expire, are the model's choice, log entry 3. That one expiry treats the
links in index order is log entry 11, and that selection runs once at the end is log entry 12. (R27, R28, R29, R30) -/
def Obligations.EchoesAndProbes : Prop :=
  ∀ (s : State) (l : LinkId) (sequence : Nat),
    sequence < 65536 →
    (¬((s.link l).state ≠ .off ∧ (s.link l).probeOut = true ∧ (s.link l).probeSeq = sequence) →
      Becomes (exec (.echo l.val sequence) s) s)
    ∧ ((s.link l).state ≠ .off → (s.link l).probeOut = true →
      Becomes (exec (.echo l.val (s.link l).probeSeq) s)
        (if (s.link l).state = .probing ∧ 3 ≤ satAdd 255 (s.link l).goodEchoes 1
          ∧ s.settings.entryThreshold ≤ (s.link l).quality then
          select
            (setLink l
              { s.link l with
                probeOut := false
                misses := 0
                goodEchoes := satAdd 255 (s.link l).goodEchoes 1
                state := .ready
                lowQuality := 0
                drainTimer := none
                holdOffTimer := none } s)
        else
          setLink l
            { s.link l with probeOut := false, misses := 0, goodEchoes := satAdd 255 (s.link l).goodEchoes 1 } s))
    ∧ (s.lkm.probeTimer = none → Becomes (exec .probeTimerExpiry s) s)
    ∧ (∀ d ∈ s.lkm.probeTimer,
      Next (exec .probeTimerExpiry s) fun t =>
        t.shipTime = max s.shipTime d ∧ t.lkm.probeTimer = some (max s.shipTime d + 1000 * s.settings.probePeriod)
          ∧ t.lkm.dwellTimer = s.lkm.dwellTimer
          ∧ ((s.link l).probeOut = true ∧ 2 ≤ (s.link l).misses →
            t.link l =
              { s.link l with
                state := .fault
                goodEchoes := 0
                misses := 0
                lowQuality := 0
                probeOut := false
                carryTimer := none
                drainTimer := none
                holdOffTimer := some (max s.shipTime d + 30000) }
              ∧ t.condSet .linkFault = true
              ∧ ((s.link l).state = .engaging ∨ (s.link l).state = .carrying → (l, .release) ∈ s.terminalSince t))
          ∧ (¬((s.link l).probeOut = true ∧ 2 ≤ (s.link l).misses) → (s.link l).state.probed = true →
            (t.link l).probeSeq = ((s.link l).probeSeq + 1) % 65536 ∧ (t.link l).probeOut = true
              ∧ (l, .probe (((s.link l).probeSeq + 1) % 65536)) ∈ s.terminalSince t
              ∧ (t.link l).statusAge = satAdd 255 (s.link l).statusAge 1
              ∧ (t.link l).misses = (if (s.link l).probeOut = true then (s.link l).misses + 1 else (s.link l).misses)
              ∧ (t.link l).goodEchoes = (if (s.link l).probeOut = true then 0 else (s.link l).goodEchoes)
              ∧ (t.link l).last = (s.link l).last ∧ (t.link l).cfg = (s.link l).cfg
              ∧ ((t.link l).state = (s.link l).state ∨ ((s.link l).state = .ready ∧ (t.link l).state = .engaging)))
          ∧ ((s.link l).probeOut = false → (s.link l).state.probed = false → (s.link l).state ≠ .off →
            t.link l = { s.link l with statusAge := satAdd 255 (s.link l).statusAge 1 })
          ∧ ((s.link l).probeOut = false → (s.link l).state = .off → t.link l = s.link l)
          ∧ ((s.link l).state.probed = false → ∀ f ∈ s.terminalSince t, f.1 ≠ l)
          ∧ ((s.link l).state.probed = true → (s.link l).state ≠ .carrying →
            (s.terminalSince t).filter (fun f => f.1 == l) =
              if (s.link l).probeOut = true ∧ 2 ≤ (s.link l).misses then
                if (s.link l).state = .engaging then [(l, .release)] else []
              else
                (l, .probe (((s.link l).probeSeq + 1) % 65536))
                  :: (if (s.link l).state = .ready ∧ (t.link l).state = .engaging then [(l, .carry)] else []))
          ∧ s.ports.terminal <+: t.ports.terminal ∧ t.ports.control = s.ports.control
          ∧ ((∀ m : LinkId, (s.link m).state = .carrying ∨ (s.link m).state = .draining →
              ¬((s.link m).probeOut = true ∧ 2 ≤ (s.link m).misses)) →
            t =
              { s with
                shipTime := t.shipTime
                lkm := { s.lkm with links := t.lkm.links, probeTimer := t.lkm.probeTimer }
                duc := { s.duc with lamp := t.duc.lamp }
                ctp := { s.ctp with conditions := t.ctp.conditions, noticePending := t.ctp.noticePending }
                ports := { s.ports with terminal := t.ports.terminal } })
          ∧ OnlyRegistration
            { s with
              shipTime := t.shipTime
              lkm := t.lkm
              mail := { s.mail with cap := t.mail.cap, epc := t.mail.epc } } t)

/-- Where a link is ENGAGING, or no READY link is enabled and of a kind the current zone permits, selection changes
nothing. Otherwise let b be the eligible READY link of highest score, the lowest index among equals. With no link
CARRYING b enters ENGAGING, is sent CARRY and has 5 s to answer. With a link CARRYING, b does so exactly when the
dwell timer is not running and its score exceeds the carrying link's plus the swap margin. Nothing else changes. (R32,
R33, R34, R35) -/
def Obligations.SelectionEngagesTheBest : Prop :=
  ∀ (s : State) (b : LinkId),
    ((∃ l : LinkId, (s.link l).state = .engaging) → select s = s)
    ∧ ((∀ l : LinkId, (s.link l).state = .ready → (s.link l).cfg.enabled = false
        ∨ s.zone.kinds.has (s.link l).cfg.kind = false) →
      select s = s)
    ∧ ((∀ l : LinkId, (s.link l).state ≠ .engaging) →
      (s.link b).state = .ready ∧ (s.link b).cfg.enabled = true ∧ s.zone.kinds.has (s.link b).cfg.kind = true →
      (∀ m : LinkId,
        (s.link m).state = .ready ∧ (s.link m).cfg.enabled = true ∧ s.zone.kinds.has (s.link m).cfg.kind = true →
          (s.link m).score < (s.link b).score ∨ ((s.link m).score = (s.link b).score ∧ b ≤ m)) →
      (s.carryingLink = none →
        select s =
          sendTerminal b .carry
            (setLink b
              { s.link b with
                state := .engaging
                carryTimer := some (s.shipTime + 5000)
                drainTimer := none
                holdOffTimer := none } s))
      ∧ (∀ c ∈ s.carryingLink,
        select s =
          if s.lkm.dwellTimer = none ∧ (s.link c).score + s.settings.swapMargin < (s.link b).score then
            sendTerminal b .carry
              (setLink b
                { s.link b with
                  state := .engaging
                  carryTimer := some (s.shipTime + 5000)
                  drainTimer := none
                  holdOffTimer := none } s)
          else s))
    ∧ (∀ l : LinkId,
      (s.link l).score =
        match (s.link l).last with
        | none => 0
        | some r => if 3 ≤ (s.link l).statusAge then 0 else min 150 (r.quality + (s.link l).cfg.bonus - r.latency / 100))

/-- CARRIED at an ENGAGING link makes it CARRYING with its carry timer stopped; the link that carried before enters
DRAINING with RELEASE and the drain timer; the dwell timer is armed; R40 applies and waiting registrations are sent.
In any other state it changes nothing. The carry timer's expiry puts the ENGAGING link in FAULT for 30 s, with RELEASE
and LINK_FAULT, and selection runs. When the carrying link changes, the effective capacity of the link now CARRYING, 0
for none, is handed to the CAP; its class, NONE for none, to the EPC where it differs from the class last handed; and
LINK_SWAPPED is set where a link carries, else NO_BACKHAUL. Nothing else changes. The ship time raised to the deadline
at an expiry, and that a stopped timer does not expire, are the model's choice, log entry 3. That selection runs once
at the end of the command is log entry 12. (R19, R36, R37, R23, R40) -/
def Obligations.Engagements : Prop :=
  ∀ (s : State) (l : LinkId),
    ((s.link l).state ≠ .engaging → Becomes (exec (.carried l.val) s) s)
    ∧ ((s.link l).state = .engaging → s.carryingLink = none →
      Becomes (exec (.carried l.val) s)
        (select
          (sendQueued
            (carryingChanged
              (setLink l { s.link l with state := .carrying, carryTimer := none, drainTimer := none, holdOffTimer := none }
                { s with lkm := { s.lkm with dwellTimer := some (s.shipTime + 1000 * s.settings.dwellTime) } })))))
    ∧ ((s.link l).state = .engaging → ∀ m ∈ s.carryingLink,
      Becomes (exec (.carried l.val) s)
        (select
          (sendQueued
            (carryingChanged
              (sendTerminal m .release
                (setLink m
                  { s.link m with
                    state := .draining
                    goodEchoes := 0
                    misses := 0
                    probeOut := false
                    carryTimer := none
                    drainTimer := some (s.shipTime + 1000 * s.settings.drainLimit)
                    holdOffTimer := none }
                  (setLink l { s.link l with state := .carrying, carryTimer := none, drainTimer := none, holdOffTimer := none }
                    { s with lkm := { s.lkm with dwellTimer := some (s.shipTime + 1000 * s.settings.dwellTime) } })))))))
    ∧ ((s.link l).state = .engaging → ∀ d ∈ (s.link l).carryTimer,
      Becomes (exec (.carryTimeout l.val) s)
        (select
          (setCond .linkFault
            (sendTerminal l .release
              (setLink l
                { s.link l with
                  state := .fault
                  goodEchoes := 0
                  misses := 0
                  lowQuality := 0
                  probeOut := false
                  carryTimer := none
                  drainTimer := none
                  holdOffTimer := some (max s.shipTime d + 30000) }
                { s with shipTime := max s.shipTime d })))))
    ∧ ((s.link l).carryTimer = none → Becomes (exec (.carryTimeout l.val) s) s)
    ∧ (carryingChanged s =
      setCond (if s.carryingLink.isSome = true then .linkSwapped else .noBackhaul)
        { s with
          lkm := { s.lkm with classHanded := s.carryingLink.map (fun l => (s.link l).cfg.kind) }
          mail :=
            { s.mail with
              cap := s.mail.cap ++ [(s.carryingLink.map (fun l => (s.link l).capacity)).getD 0]
              epc :=
                if s.carryingLink.map (fun l => (s.link l).cfg.kind) = s.lkm.classHanded then s.mail.epc
                else s.mail.epc ++ [.linkClass] } })
    ∧ (∀ l ∈ s.carryingLink, (s.link l).state = .carrying)
    ∧ (s.carryingLink = none → ∀ l : LinkId, (s.link l).state ≠ .carrying)

/-- RELEASED at a DRAINING link, or its drain timer's expiry, moves it to READY if its last STATUS has carrier and its
effective quality is at the entry threshold, else to DOWN; the RGE is told that it has left, and selection runs.
RELEASED in any other state changes nothing. The hold-off timer's expiry moves a FAULT link to DOWN. The dwell timer's
expiry stops it and runs selection. A stopped timer does not expire. The ship time raised to the deadline at an
expiry, and that a stopped timer does not expire, are the model's choice, log entry 3. (R30, R39, R41, R35, R19) -/
def Obligations.DrainingAndHoldOff : Prop :=
  ∀ (s : State) (l : LinkId),
    ((s.link l).state ≠ .draining → Becomes (exec (.released l.val) s) s)
    ∧ ((s.link l).state = .draining →
      Becomes (exec (.released l.val) s)
        (select
          (linkDeparted l
            (setLink l
              (if (s.link l).last.any StatusRecord.carrier = true ∧ s.settings.entryThreshold ≤ (s.link l).quality then
                { s.link l with state := .ready, lowQuality := 0, drainTimer := none, holdOffTimer := none }
              else
                { s.link l with
                  state := .down
                  goodEchoes := 0
                  misses := 0
                  lowQuality := 0
                  probeOut := false
                  carryTimer := none
                  drainTimer := none
                  holdOffTimer := none }) s))))
    ∧ ((s.link l).state = .draining → ∀ d ∈ (s.link l).drainTimer,
      Becomes (exec (.drainTimerExpiry l.val) s)
        (select
          (linkDeparted l
            (setLink l
              (if (s.link l).last.any StatusRecord.carrier = true ∧ s.settings.entryThreshold ≤ (s.link l).quality then
                { s.link l with state := .ready, lowQuality := 0, drainTimer := none, holdOffTimer := none }
              else
                { s.link l with
                  state := .down
                  goodEchoes := 0
                  misses := 0
                  lowQuality := 0
                  probeOut := false
                  carryTimer := none
                  drainTimer := none
                  holdOffTimer := none }) { s with shipTime := max s.shipTime d }))))
    ∧ ((s.link l).state = .fault → ∀ d ∈ (s.link l).holdOffTimer,
      Becomes (exec (.holdOffExpiry l.val) s)
        (select
          (setLink l
            { s.link l with
              state := .down
              goodEchoes := 0
              misses := 0
              lowQuality := 0
              probeOut := false
              carryTimer := none
              drainTimer := none
              holdOffTimer := none }
            { s with shipTime := max s.shipTime d })))
    ∧ (∀ d ∈ s.lkm.dwellTimer,
      Becomes (exec .dwellTimerExpiry s)
        (select { s with shipTime := max s.shipTime d, lkm := { s.lkm with dwellTimer := none } }))
    ∧ ((s.link l).drainTimer = none → Becomes (exec (.drainTimerExpiry l.val) s) s)
    ∧ ((s.link l).holdOffTimer = none → Becomes (exec (.holdOffExpiry l.val) s) s)
    ∧ (s.lkm.dwellTimer = none → Becomes (exec .dwellTimerExpiry s) s)

/-- When the LKM takes a zone change, every ENGAGING or CARRYING link whose kind the new zone does not permit enters
DRAINING with its drain timer and is sent RELEASE by this command; every other link keeps its record, but that
selection may engage one READY link of a permitted kind. The event is taken, and nothing but links, what they hand on,
conditions and terminal frames changes. With no event delivered nothing happens (log entry 2). That the permitted
kinds are those of the delivered event's record is log entry 17. (R38, R23) -/
def Obligations.ZoneChangeDrainsUnpermittedLinks : Prop :=
  ∀ (s : State) (l : LinkId),
    (s.mail.lkm = [] → Becomes (exec .linkZoneCheck s) s)
    ∧ (∀ e ∈ s.mail.lkm.head?,
      Next (exec .linkZoneCheck s) fun t =>
        t =
          { s with
            lkm := { s.lkm with links := t.lkm.links, classHanded := t.lkm.classHanded }
            mail := { s.mail with lkm := s.mail.lkm.tail, cap := t.mail.cap, epc := t.mail.epc }
            ctp := { s.ctp with conditions := t.ctp.conditions, noticePending := t.ctp.noticePending }
            ports := { s.ports with terminal := t.ports.terminal }
            duc := { s.duc with lamp := t.duc.lamp } }
          ∧ s.ports.terminal <+: t.ports.terminal
          ∧ ((s.link l).state.ordered = true → e.record.kinds.has (s.link l).cfg.kind = false →
            t.link l =
              { s.link l with
                state := .draining
                goodEchoes := 0
                misses := 0
                probeOut := false
                carryTimer := none
                holdOffTimer := none
                drainTimer := some (s.shipTime + 1000 * s.settings.drainLimit) }
              ∧ (l, .release) ∈ s.terminalSince t)
          ∧ (¬((s.link l).state.ordered = true ∧ e.record.kinds.has (s.link l).cfg.kind = false) →
            t.link l = s.link l
              ∨ ((s.link l).state = .ready ∧ e.record.kinds.has (s.link l).cfg.kind = true
                ∧ t.link l =
                  { s.link l with
                    state := .engaging
                    carryTimer := some (s.shipTime + 5000)
                    drainTimer := none
                    holdOffTimer := none })))

/-- A deck frame from a unit above 23, a terminal frame from a link above 5, and a REG_ANS from a link in OFF, each with
any operands, changes nothing. TERMINAL_FRAME_INVALID changes nothing. DECK_FRAME_INVALID raises the bad-frame count
of the cell addressed, if its header is readable and the address at most 23, else it changes nothing. ACTIVITY,
RETUNED, SILENCED, ATTACH, DETACH, USAGE and USAGE_END from a cell in ABSENT, LOST or DISABLED raise its bad-frame
count, saturating, and change nothing else. (R19, R59, R60, R196) -/
def Obligations.FramesNotTaken : Prop :=
  ∀ (s : State) (c : CellId) (l : LinkId) (unit link : Nat) (payload : List Byte)
    (n phase power carrier quality latency capacity result cause : Nat) (kinds : List Nat) (beacon : Beacon) (sid : Sid) (entries : List UsageEntry),
    (23 < unit →
      Becomes (exec (.join unit n) s) s ∧ Becomes (exec (.heartbeat unit phase power n) s) s
        ∧ Becomes (exec (.activity unit kinds) s) s
        ∧ Becomes (exec (.retuned unit beacon) s) s ∧ Becomes (exec (.silenced unit) s) s
          ∧ Becomes (exec (.attach unit sid) s) s
        ∧ Becomes (exec (.detach unit sid n) s) s ∧ Becomes (exec (.usage unit n entries) s) s
        ∧ Becomes (exec (.usageEnd unit n) s) s)
    ∧ (5 < link →
      Becomes (exec (.status link carrier quality latency capacity) s) s ∧ Becomes (exec (.echo link n) s) s
        ∧ Becomes (exec (.carried link) s) s
        ∧ Becomes (exec (.released link) s) s ∧ Becomes (exec (.regAns link n result cause) s) s)
    ∧ ((s.link l).state = .off → Becomes (exec (.regAns l.val n result cause) s) s)
    ∧ (terminalFrameValid payload = false → Becomes (exec (.terminalFrameInvalid payload) s) s)
    ∧ (match deckHeader payload with
      | none => Becomes (exec (.deckFrameInvalid payload) s) s
      | some (address, valid) =>
        (23 < address → Becomes (exec (.deckFrameInvalid payload) s) s)
        ∧ (address = c.val → valid = false →
          Becomes (exec (.deckFrameInvalid payload) s)
            (s.withBadFrame c)))
    ∧ ((s.cell c).state.joined = false →
      Becomes (exec (.activity c.val kinds) s) (s.withBadFrame c)
        ∧ Becomes (exec (.retuned c.val beacon) s) (s.withBadFrame c)
        ∧ Becomes (exec (.silenced c.val) s) (s.withBadFrame c)
        ∧ Becomes (exec (.attach c.val sid) s) (s.withBadFrame c)
        ∧ Becomes (exec (.detach c.val sid n) s) (s.withBadFrame c)
        ∧ Becomes (exec (.usage c.val n entries) s) (s.withBadFrame c)
        ∧ Becomes (exec (.usageEnd c.val n) s) (s.withBadFrame c))

/-- With D at most P every serving cell is granted its demand and the pointer stays; the grants then sum to D. With D
above P and L a level at which the sum of the smaller of demand and L fits the pool while that of L + 1 does not: each
serving cell is given the smaller of its demand and L, and the cells with more demand than L, taken from the pointer
on and wrapping, get one unit more each until the leftover is used; the pointer moves past the last of them, or stays
where the leftover is 0; the grants sum to exactly P. Cells not serving have grant 0, the demand-changed flag clears,
and nothing else but the GRANT frames changes. (R47, R48) -/
def Obligations.GrantDivision : Prop :=
  ∀ (s : State) (level : Nat),
    (OnlyGrants s (recompute s) ∧ (recompute s).cap.demandChanged = false)
    ∧ (∀ c : CellId, (s.cell c).state ≠ .serving → ((recompute s).cell c).grant = 0)
    ∧ ((s.serving.map fun c => (s.cell c).demand).sum ≤ s.cap.pool →
      (∀ c : CellId, (s.cell c).state = .serving → ((recompute s).cell c).grant = (s.cell c).demand)
        ∧ (recompute s).cap.pointer = s.cap.pointer
        ∧ (recompute s).grantSum = (s.serving.map fun c => (s.cell c).demand).sum)
    ∧ (s.cap.pool < (s.serving.map fun c => (s.cell c).demand).sum →
      (s.serving.map fun c => min (s.cell c).demand level).sum ≤ s.cap.pool →
      s.cap.pool < (s.serving.map fun c => min (s.cell c).demand (level + 1)).sum →
      let leftover := s.cap.pool - (s.serving.map fun c => min (s.cell c).demand level).sum
      let above := s.serving.filter (fun c => level < (s.cell c).demand)
      let order :=
        above.filter (fun c => s.cap.pointer ≤ c.val) ++ above.filter (fun c => c.val < s.cap.pointer)
      (∀ c : CellId, (s.cell c).state = .serving →
        ((recompute s).cell c).grant = min (s.cell c).demand level + (if c ∈ order.take leftover then 1 else 0))
        ∧ (recompute s).cap.pointer
          = (match (order.take leftover).getLast? with
            | none => s.cap.pointer
            | some c => (c.val + 1) % 24)
        ∧ leftover < above.length
        ∧ (recompute s).grantSum = s.cap.pool)
    ∧ ((recompute s).ports.deck =
      s.ports.deck
        ++ (allCells.filter (fun c => (s.cell c).state == .serving && decide (((recompute s).cell c).grant < (s.cell c).grant))
            ++ allCells.filter
              (fun c => (s.cell c).state == .serving && decide ((s.cell c).grant < ((recompute s).cell c).grant))).map
          (fun c => (c, DeckFrame.grant ((recompute s).cell c).grant)))

/-- The CAP takes the capacity handed to it: it is stored, the pool is what the reserve leaves of it, and a recomputation
runs only if the pool changed. At the regrant timer's expiry the timer is re-armed with 2 s, and a recomputation runs
only if the demand-changed flag is set. At a RESTART every grant and the pointer become 0, the flag clears and a
recomputation runs. Where nothing was delivered, nothing happens (log entry 2). The ship time raised to the deadline
at an expiry, and that a stopped timer does not expire, are the model's choice, log entry 3. (R45, R54, R56) -/
def Obligations.CapacityAndRegrant : Prop :=
  ∀ (s : State),
    (match s.mail.cap with
      | [] => Becomes (exec .capacityHandover s) s
      | n :: rest =>
        Becomes (exec .capacityHandover s)
          (if n - s.settings.reserve = s.cap.pool then
            { s with mail := { s.mail with cap := rest }, cap := { s.cap with carried := n } }
          else
            recompute
              { s with
                mail := { s.mail with cap := rest }
                cap := { s.cap with carried := n, pool := n - s.settings.reserve } }))
    ∧ (match s.cap.regrantTimer with
      | none => Becomes (exec .regrantTimerExpiry s) s
      | some d =>
        Becomes (exec .regrantTimerExpiry s)
          (if s.cap.demandChanged = true then
            recompute
              { s with
                shipTime := max s.shipTime d
                cap := { s.cap with regrantTimer := some (max s.shipTime d + 2000) } }
          else
            { s with
              shipTime := max s.shipTime d
              cap := { s.cap with regrantTimer := some (max s.shipTime d + 2000) } }))
    ∧ (s.mail.restart.contains .cap = true → s.NoneMalformed .cap →
      Becomes (exec .capRestart s)
        (recompute
          { s with
            mail := { s.mail with restart := s.mail.restart.erase .cap }
            duc := { s.duc with cells := s.duc.cells.map (fun x => { x with grant := 0 }) }
            cap := { s.cap with pointer := 0, demandChanged := false } }))
    ∧ (s.mail.restart.contains .cap = false → Becomes (exec .capRestart s) s)

/-- While the DUC holds JOINs the JOIN is kept in order of arrival. A DISABLED cell answers REFUSE(DISABLED) and changes
nothing. In ABSENT, LOST and SILENT the unit is accepted: the record is reset with its serial, the cell is off the
retune list and, but from ABSENT, struck from every pending set; with service it is SERVING under the current beacon,
sent ACCEPT with the newest epoch, its idle timer loaded, and the grants, the pointer and the demand-changed flag are
those of one recomputation over the cells as they then stand, whose GRANT frames are the last deck frames (the whole
of O39 says what that gives); without service no grant moves, and the cell is SILENT and sent ACCEPT without one; and
the heartbeat timer is armed. The recorded serial at SERVING is answered ACCEPT again and the stored grant; at DOZE,
DEEP, RETUNING and SILENCING it is counted bad. A new serial in those five is a restarted unit: it is accepted afresh
with demand 0 and grant 0, the grants recomputed in waters with service (stated but for a RETUNING cell, whose window
place is dispatched first), is in no pending set, and, where the contexts stand in order, those it served and that are
not LEAVING are orphans. That a repeated acceptance keeps the beacon identity in force and the place on the retune
list is log entry 40. (R47, R51, R53, R62, R63, R64, R65, R76) -/
def Obligations.Joining : Prop :=
  ∀ (s : State) (c : CellId) (serial : Nat),
    serial < 4294967296 →
    (s.holdsJoins = true →
      Becomes (exec (.join c.val serial) s) { s with duc := { s.duc with heldJoins := s.duc.heldJoins ++ [(c, serial)] } })
    ∧ (s.holdsJoins = false → (s.cell c).state = .disabled →
      Becomes (exec (.join c.val serial) s) { s with ports := { s.ports with deck := s.ports.deck ++ [(c, .refuseJoin)] } })
    ∧ (s.holdsJoins = false → (s.cell c).state = .absent ∨ (s.cell c).state = .lost ∨ (s.cell c).state = .silent →
      Next (exec (.join c.val serial) s) fun t =>
        t.cell c =
          { s.cell c with
            serial := serial
            phase := .a
            good := false
            missed := 0
            heartbeatTimer := some (s.shipTime + 1000 * s.settings.heartbeatPeriod)
            power := .mains
            demand := 0
            idleTimer := if s.zone.service = true then some (s.shipTime + 1000 * s.settings.idleTime) else none
            deepTimer := none
            retuneTimer := none
            silenceTimer := none
            state := if s.zone.service = true then .serving else .silent
            beacon := if s.zone.service = true then s.zone.beacon else none
            grant := if s.zone.service = true then 0 else (s.cell c).grant
            target := none }
          ∧ (c, if s.zone.service = true then .acceptServe s.zone.beacon t.newestEpoch.number else .acceptSilent) ∈ s.sentSince t
          ∧ t.duc.retuneList = s.duc.retuneList.filter (· != c)
          ∧ (s.zone.service = true → Regranted s t ∧ (s.withGrantsOf t).grantFrames <:+ t.ports.deck)
          ∧ (s.zone.service = false → t.cap = s.cap ∧ ∀ d : CellId, (t.cell d).grant = (s.cell d).grant)
          ∧ ((s.cell c).state ≠ .absent → ∀ e ∈ t.epc.ring, c ∉ e.pendingSet)
          ∧ ((s.cell c).state = .absent → t.epc = s.epc ∧ t.sbt = s.sbt ∧ t.tkq = s.tkq ∧ t.rte = s.rte ∧ t.rge = s.rge
              ∧ t.ctp = s.ctp)
          ∧ (∀ d : CellId, d ≠ c → t.cell d = { s.cell d with grant := (t.cell d).grant })
          ∧ t =
            { s with
              duc := { s.duc with cells := t.duc.cells, retuneList := t.duc.retuneList, lamp := t.duc.lamp }
              cap := { s.cap with pointer := t.cap.pointer, demandChanged := t.cap.demandChanged }
              ports := { s.ports with deck := t.ports.deck }
              epc := t.epc
              sbt := { s.sbt with contexts := t.sbt.contexts }
              tkq := t.tkq
              rte := { s.rte with generations := t.rte.generations, attention := t.rte.attention }
              rge := { s.rge with generations := t.rge.generations }
              ctp := { s.ctp with conditions := t.ctp.conditions, noticePending := t.ctp.noticePending } })
    ∧ (s.holdsJoins = false → (s.cell c).state = .serving → serial = (s.cell c).serial →
      Becomes (exec (.join c.val serial) s)
        (setCell c
          { s.cell c with
            phase := .a
            good := false
            heartbeatTimer := some (s.shipTime + 1000 * s.settings.heartbeatPeriod) }
          { s with
            ports :=
              { s.ports with
                deck :=
                  s.ports.deck ++ [(c, .acceptServe s.zone.beacon s.newestEpoch.number)]
                    ++ (if 0 < (s.cell c).grant then [(c, .grant (s.cell c).grant)] else []) } }))
    ∧ (s.holdsJoins = false → serial = (s.cell c).serial →
      (s.cell c).state = .doze ∨ (s.cell c).state = .deep ∨ (s.cell c).state = .retuning ∨ (s.cell c).state = .silencing →
      Becomes (exec (.join c.val serial) s) (s.withBadFrame c))
    ∧ (s.holdsJoins = false → serial ≠ (s.cell c).serial →
      (s.cell c).state = .serving ∨ (s.cell c).state.dozing = true ∨ (s.cell c).state = .retuning
        ∨ (s.cell c).state = .silencing →
      Next (exec (.join c.val serial) s) fun t =>
        (t.cell c).state = (if s.zone.service = true then .serving else .silent)
          ∧ (t.cell c).serial = serial ∧ (t.cell c).demand = 0 ∧ (GrantLaw s → (t.cell c).grant = 0)
          ∧ (t.cell c).phase = .a ∧ (t.cell c).power = .mains ∧ (t.cell c).missed = 0 ∧ (t.cell c).target = none
          ∧ (t.cell c).heartbeatTimer = some (s.shipTime + 1000 * s.settings.heartbeatPeriod)
          ∧ (s.zone.service = true → (s.cell c).state ≠ .retuning → Regranted s t)
          ∧ c ∉ t.duc.retuneList ∧ (∀ e ∈ t.epc.ring, c ∉ e.pendingSet)
          ∧ (c, if s.zone.service = true then .acceptServe s.zone.beacon t.newestEpoch.number else .acceptSilent) ∈ s.sentSince t
          ∧ (ContextsInOrder s → ∀ e ∈ s.sbt.contexts, e.2.cell = c → e.2.state ≠ .leaving →
            ((t.context e.1).bind Context.orphan).isSome = true)
          ∧ t.shipTime = s.shipTime ∧ t.settings = s.settings ∧ t.pzu = s.pzu ∧ t.lkm = s.lkm ∧ t.cfs = s.cfs
          ∧ t.mail = s.mail ∧ t.pending = s.pending ∧ t.ports.terminal = s.ports.terminal)

/-- From ABSENT or LOST it is answered REJOIN and changes nothing; from DISABLED it is discarded. At a joined cell with
the expected phase it is good: the phase flips, the good flag is set, demand (at most 4,095) and power are stored; a
change to BACKUP at a SERVING cell brings its idle deadline forward to a quarter of the idle time, in whole seconds
(log entry 14); and a SERVING cell's changed demand sets the demand-changed flag. With the other phase, or an unlisted
phase or power, it is counted bad. Nothing else changes. (R54, R60, R66, R70, R81) -/
def Obligations.Heartbeats : Prop :=
  ∀ (s : State) (c : CellId) (phase power demand : Nat),
    demand < 65536 →
    (phase ≤ 1 → power ≤ 1 → (s.cell c).state = .absent ∨ (s.cell c).state = .lost →
      Becomes (exec (.heartbeat c.val phase power demand) s)
        { s with ports := { s.ports with deck := s.ports.deck ++ [(c, .rejoin)] } })
    ∧ (phase ≤ 1 → power ≤ 1 → (s.cell c).state = .disabled → Becomes (exec (.heartbeat c.val phase power demand) s) s)
    ∧ (1 < phase ∨ 1 < power →
      Becomes (exec (.heartbeat c.val phase power demand) s)
        (s.withBadFrame c))
    ∧ (power ≤ 1 → (s.cell c).state.joined = true → phase = (if (s.cell c).phase = .a then 1 else 0) →
      Becomes (exec (.heartbeat c.val phase power demand) s)
        (s.withBadFrame c))
    ∧ (power ≤ 1 → (s.cell c).state.joined = true → phase = (if (s.cell c).phase = .a then 0 else 1) →
      Becomes (exec (.heartbeat c.val phase power demand) s)
        (setCell c
          { s.cell c with
            phase := if (s.cell c).phase = .a then .b else .a
            good := true
            demand := min 4095 demand
            power := if power = 0 then .mains else .backup
            idleTimer :=
              if (s.cell c).state = .serving ∧ (s.cell c).power = .mains ∧ power = 1 then
                (s.cell c).idleTimer.map (fun d => min (s.shipTime + 1000 * (s.settings.idleTime / 4)) d)
              else (s.cell c).idleTimer }
          { s with
            cap :=
              { s.cap with
                demandChanged :=
                  s.cap.demandChanged || decide ((s.cell c).state = .serving ∧ min 4095 demand ≠ (s.cell c).demand) } }))

/-- A heartbeat expiry without a good HEARTBEAT for the second period running, and the expiry of the retune or the silence
timer, lose the cell; CELL_DISABLE, after a SILENCE to the unit, disables it. Either way its timers stop, its
supervision and target are dropped, its grant is 0, it is off the retune list and in no pending set, the contexts it
serves become orphans and the others keep their mark (where the contexts stand in order); a loss sets CELL_LOST, and a
silence expiry also CELL_SILENCE_FAULT. A first period missed, or a good one, re-arms the timer. CELL_DISABLE of a
DISABLED cell is OK without effect, an index above 23 is BAD_ARG, and CELL_ENABLE makes a DISABLED cell ABSENT and is
STATE for any other. The ship time raised to the deadline at an expiry, and that a stopped timer does not expire, are
the model's choice, log entry 3. (R67, R69, R71, R72, R89, R92) -/
def Obligations.CellLossAndDisable : Prop :=
  ∀ (s : State) (c : CellId) (tag cell : Nat),
    tag < 256 →
    cell < 256 →
    (GrantLaw s → ∀ d ∈ (s.cell c).heartbeatTimer, (s.cell c).good = false → 1 ≤ (s.cell c).missed →
      Next (exec (.heartbeatTimerExpiry c.val) s) fun t =>
        Dropped c .lost s t
          ∧ t.condSet .cellLost = true ∧ t.shipTime = max s.shipTime d)
    ∧ (∀ d ∈ (s.cell c).heartbeatTimer, (s.cell c).good = true ∨ (s.cell c).missed = 0 →
      Becomes (exec (.heartbeatTimerExpiry c.val) s)
        (setCell c
          { s.cell c with
            missed := if (s.cell c).good = true then 0 else 1
            good := false
            heartbeatTimer := some (max s.shipTime d + 1000 * s.settings.heartbeatPeriod) }
          { s with shipTime := max s.shipTime d }))
    ∧ (GrantLaw s → ∀ d ∈ (s.cell c).retuneTimer,
      Next (exec (.retuneTimerExpiry c.val) s) fun t =>
        Dropped c .lost s t
          ∧ t.condSet .cellLost = true ∧ t.shipTime = max s.shipTime d)
    ∧ (GrantLaw s → ∀ d ∈ (s.cell c).silenceTimer,
      Next (exec (.silenceTimerExpiry c.val) s) fun t =>
        Dropped c .lost s t
          ∧ t.condSet .cellLost = true ∧ t.condSet .cellSilenceFault = true ∧ t.shipTime = max s.shipTime d)
    ∧ (GrantLaw s → Ready 0x21 s → (s.cell c).state ≠ .disabled →
      Next (exec (.cellDisable tag c.val) s) fun t =>
        Dropped c .disabled s t
          ∧ Answered s t tag 0x21 (be 1 c.val) .ok [] ∧ (s.sentSince t).head? = some (c, .silence)
          ∧ t.shipTime = s.shipTime)
    ∧ (Ready 0x21 s → (s.cell c).state = .disabled → Replies (exec (.cellDisable tag c.val) s) tag 0x21 (be 1 c.val) .ok [] s)
    ∧ (Ready 0x21 s → 23 < cell → Replies (exec (.cellDisable tag cell) s) tag 0x21 (be 1 cell) .badArg [] s)
    ∧ (Ready 0x20 s → 23 < cell → Replies (exec (.cellEnable tag cell) s) tag 0x20 (be 1 cell) .badArg [] s)
    ∧ (Ready 0x20 s →
      if (s.cell c).state = .disabled then
        Replies (exec (.cellEnable tag c.val) s) tag 0x20 (be 1 c.val) .ok [] (setCell c { s.cell c with state := .absent } s)
      else Replies (exec (.cellEnable tag c.val) s) tag 0x20 (be 1 c.val) .state [] s)
    ∧ ((s.cell c).heartbeatTimer = none → Becomes (exec (.heartbeatTimerExpiry c.val) s) s)
    ∧ ((s.cell c).retuneTimer = none → Becomes (exec (.retuneTimerExpiry c.val) s) s)
    ∧ ((s.cell c).silenceTimer = none → Becomes (exec (.silenceTimerExpiry c.val) s) s)

/-- At SERVING a list with a primary event reloads the idle timer. At DOZE a primary event wakes the cell, and with none a
secondary event reloads the deep timer; at DEEP only a primary deep-wake event wakes it; at RETUNING, SILENCING and
SILENT nothing happens. A wake sends WAKE, makes the cell SERVING, loads the idle timer (a quarter of the idle time on
backup power, log entry 14) and recomputes the grants. The idle timer's expiry at a SERVING cell sends it to DOZE with
DOZE(LIGHT) where doze is on and enough other cells serve, else reloads the timer; the deep timer's expiry sends
DOZE(DEEP) and makes the cell DEEP. The ship time raised to the deadline at an expiry, and that a stopped timer does
not expire, are the model's choice, log entry 3. (R78, R79, R80, R81, R82, R83) -/
def Obligations.ActivityWakesAndIdleDozes : Prop :=
  ∀ (s : State) (c : CellId) (kinds : List Nat),
    activityValid kinds = true →
    ((s.cell c).state = .serving →
      Becomes (exec (.activity c.val kinds) s)
        (if s.Among kinds .primary then
          setCell c
            { s.cell c with
              idleTimer := (some
                (s.shipTime
                  + 1000 * (if (s.cell c).power = .mains then s.settings.idleTime else s.settings.idleTime / 4))) } s
        else s))
    ∧ ((s.cell c).state = .doze → s.Among kinds .primary →
      Becomes (exec (.activity c.val kinds) s)
        (recompute
          (setCell c
            { s.cell c with
              state := .serving
              deepTimer := none
              idleTimer := (some
                (s.shipTime
                  + 1000 * (if (s.cell c).power = .mains then s.settings.idleTime else s.settings.idleTime / 4))) }
            (emitDeck c .wake s))))
    ∧ ((s.cell c).state = .doze → ¬s.Among kinds .primary →
      Becomes (exec (.activity c.val kinds) s)
        (if s.Among kinds .secondary then setCell c { s.cell c with deepTimer := some (s.shipTime + 1000 * s.settings.deepTime) } s else s))
    ∧ ((s.cell c).state = .deep →
      Becomes (exec (.activity c.val kinds) s)
        (if (∃ k ∈ kinds, (s.settings.events.toList[k]?).any (fun e => e.cls == .primary && e.deepWake) = true) then
          recompute
            (setCell c
              { s.cell c with
                state := .serving
                deepTimer := none
                idleTimer := (some
                (s.shipTime
                  + 1000 * (if (s.cell c).power = .mains then s.settings.idleTime else s.settings.idleTime / 4))) }
              (emitDeck c .wake s))
        else s))
    ∧ ((s.cell c).state = .retuning ∨ (s.cell c).state = .silencing ∨ (s.cell c).state = .silent →
      Becomes (exec (.activity c.val kinds) s) s)
    ∧ ((s.cell c).state = .serving → ∀ d ∈ (s.cell c).idleTimer,
      Becomes (exec (.idleTimerExpiry c.val) s)
        (if s.settings.doze = true ∧ s.settings.minAwake ≤ s.serving.length - 1 then
          recompute
            (setCell c
              { s.cell c with
                state := .doze
                grant := 0
                idleTimer := none
                deepTimer := some (max s.shipTime d + 1000 * s.settings.deepTime) }
              (emitDeck c .dozeLight { s with shipTime := max s.shipTime d }))
        else
          setCell c
            { s.cell c with
              idleTimer :=
                some
                  (max s.shipTime d
                    + 1000 * (if (s.cell c).power = .mains then s.settings.idleTime else s.settings.idleTime / 4)) }
            { s with shipTime := max s.shipTime d }))
    ∧ ((s.cell c).state = .doze → ∀ d ∈ (s.cell c).deepTimer,
      Becomes (exec (.deepTimerExpiry c.val) s)
        (setCell c { s.cell c with state := .deep, deepTimer := none }
          (emitDeck c .dozeDeep { s with shipTime := max s.shipTime d })))
    ∧ ((s.cell c).idleTimer = none → Becomes (exec (.idleTimerExpiry c.val) s) s)
    ∧ ((s.cell c).deepTimer = none → Becomes (exec (.deepTimerExpiry c.val) s) s)

/-- RETUNED at a RETUNING cell with its target makes it SERVING under that identity, its idle timer loaded and the grants
recomputed; it goes back on the retune list if the current zone has another identity by then, and dispatch follows.
Another identity is counted bad; at any other joined cell RETUNED is discarded. SILENCED at a SILENCING cell completes
the counts of its contexts that wait for them and makes the cell SILENT without an identity; where the current zone
allows service it is resumed at once: RESUME, SERVING, idle timer, recomputation. At any other joined cell it is
discarded. The idle timer is loaded under R81; a quarter of the idle time in whole seconds on backup power is log
entry 14. (R81, R86, R87, R88, R92, R114) -/
def Obligations.RetunedAndSilenced : Prop :=
  ∀ (s : State) (c : CellId) (beacon : Beacon),
    (beaconValid beacon = true → (s.cell c).state = .retuning → (s.cell c).target = some beacon →
      Becomes (exec (.retuned c.val beacon) s)
        (dispatch
          (recompute
            (setCell c
              { s.cell c with
                state := .serving
                beacon := some beacon
                target := none
                retuneTimer := none
                idleTimer := (some
                  (s.shipTime
                    + 1000 * (if (s.cell c).power = .mains then s.settings.idleTime else s.settings.idleTime / 4))) }
              { s with
                duc :=
                  { s.duc with
                    retuneList := if s.zone.beacon = some beacon then s.duc.retuneList else s.duc.retuneList ++ [c] } }))))
    ∧ ((s.cell c).state = .retuning → (s.cell c).target ≠ some beacon →
      Becomes (exec (.retuned c.val beacon) s) (s.withBadFrame c))
    ∧ (beaconValid beacon = true → (s.cell c).state.joined = true → (s.cell c).state ≠ .retuning →
      Becomes (exec (.retuned c.val beacon) s) s)
    ∧ ((s.cell c).state = .silencing →
      Becomes (exec (.silenced c.val) s)
        (let silent :=
          cellCountsComplete c (setCell c { s.cell c with state := .silent, silenceTimer := none, beacon := none } s)
        if s.zone.service = true then
          recompute
            (setCell c
              { silent.cell c with
                state := .serving
                beacon := s.zone.beacon
                idleTimer := (some
                  (s.shipTime
                    + 1000 * (if (s.cell c).power = .mains then s.settings.idleTime else s.settings.idleTime / 4))) }
              (emitDeck c (.resume s.zone.beacon s.newestEpoch.number) silent))
        else silent))
    ∧ ((s.cell c).state.joined = true → (s.cell c).state ≠ .silencing → Becomes (exec (.silenced c.val) s) s)
    ∧ (∀ k : Nat, ∀ x ∈ s.context k, x.cell = c → x.state = .leaving → x.leaving = some ⟨.serviceOff, false⟩ →
      ((cellCountsComplete c s).context k).bind Context.leaving
        = (if x.held.isSome = true then some ⟨.serviceOff, true⟩ else none))
    ∧ (OnlyCharging s (cellCountsComplete c s))
    ∧ (s.duc.retuneList ≠ [] → s.retuningCount < s.settings.retuneWindow →
      dispatch s ≠ s ∧ ((dispatch s).duc.retuneList = [] ∨ s.settings.retuneWindow ≤ (dispatch s).retuningCount))

/-- For a zone without service: the retune list empties, every cell in SERVING, DOZE, DEEP or RETUNING is sent SILENCE and
becomes SILENCING with 10 s to answer and its other order timers stopped, its grant 0; every other cell keeps its
record but for the grant. For a zone with service: SILENT cells become SERVING under the new identity with their idle
timer loaded; the listed cells under another identity keep their order, with the cells in SERVING, DOZE or DEEP under
another identity that were not listed behind them in rising order, and from the head of that list cells are sent
RETUNE and become RETUNING with grant 0 and 10 s to answer; the rest stay listed with their record but for the grant,
those already under the identity are not listed, the list is left waiting only when the retune window is full, and the
cells in RETUNING never exceed the window unless they did before. Cells in ABSENT, LOST, DISABLED, RETUNING and
SILENCING keep their whole record and are sent nothing. (GrantLaw and RetuneLaw, O4, rule out states that no run
reaches.) A quarter of the idle time in whole seconds on backup power is log entry 14. An event of the other kind, or
none, changes nothing (log entry 2). Acting by the delivered event's record rather than the current zone's is log
entry 17. (R86, R87, R91) -/
def Obligations.RetuneAndSilenceOrders : Prop :=
  ∀ (s : State) (c : CellId),
    (∀ e ∈ s.mail.duc.head?, e.record.service = false →
      Becomes (exec .cellRetuneOrder s) s
        ∧ (GrantLaw s →
          Next (exec .cellSilenceOrder s) fun t =>
            t.duc.retuneList = [] ∧ t.mail = { s.mail with duc := s.mail.duc.tail }
              ∧ ((s.cell c).state.silenced = true →
                t.cell c =
                    { s.cell c with
                      state := .silencing
                      target := none
                      grant := 0
                      idleTimer := none
                      deepTimer := none
                      retuneTimer := none
                      silenceTimer := some (s.shipTime + 10000) }
                  ∧ (c, .silence) ∈ s.sentSince t)
              ∧ ((s.cell c).state.silenced = false → t.cell c = s.cell c)
              ∧ OnlyGrants
                { s with
                  mail := t.mail
                  duc := { s.duc with retuneList := [], cells := t.duc.cells } } t))
    ∧ (∀ e ∈ s.mail.duc.head?, e.record.service = true →
      Becomes (exec .cellSilenceOrder s) s
        ∧ Next (exec .cellRetuneOrder s) fun t =>
          t.mail = { s.mail with duc := s.mail.duc.tail }
            ∧ ((s.cell c).state = .silent →
              t.cell c =
                  { s.cell c with
                    state := .serving
                    beacon := e.record.beacon
                    idleTimer :=
                      some
                        (s.shipTime
                          + 1000 * (if (s.cell c).power = .mains then s.settings.idleTime else s.settings.idleTime / 4))
                    grant := (t.cell c).grant }
                ∧ (c, .resume e.record.beacon s.newestEpoch.number) ∈ s.sentSince t)
            ∧ ((s.cell c).state = .serving ∨ (s.cell c).state.dozing = true →
              if (s.cell c).beacon = e.record.beacon then
                c ∉ t.duc.retuneList ∧ t.cell c = { s.cell c with grant := (t.cell c).grant }
              else
                (c ∈ t.duc.retuneList ∧ t.cell c = { s.cell c with grant := (t.cell c).grant })
                  ∨ (c ∉ t.duc.retuneList
                    ∧ t.cell c =
                      { s.cell c with
                        state := .retuning
                        target := s.zone.beacon
                        idleTimer := none
                        deepTimer := none
                        retuneTimer := some (s.shipTime + 10000)
                        grant := (t.cell c).grant }
                    ∧ (GrantLaw s → (t.cell c).grant = 0)
                    ∧ (c, .retune s.zone.beacon s.newestEpoch.number) ∈ s.sentSince t))
            ∧ (RetuneLaw s → (s.cell c).state ≠ .silent → (s.cell c).state ≠ .serving → (s.cell c).state.dozing = false →
              c ∉ t.duc.retuneList ∧ t.cell c = { s.cell c with grant := (t.cell c).grant }
                ∧ (GrantLaw s → t.cell c = s.cell c) ∧ ∀ f ∈ s.sentSince t, f.1 ≠ c)
            ∧ (RetuneLaw s → t.duc.retuneList
              <:+ s.duc.retuneList.filter (fun d => (s.cell d).beacon != e.record.beacon)
                ++ allCells.filter
                  (fun d =>
                    ((s.cell d).state == .serving || (s.cell d).state.dozing) && (s.cell d).beacon != e.record.beacon
                      && !s.duc.retuneList.contains d))
            ∧ t.retuningCount ≤ max s.retuningCount s.settings.retuneWindow
            ∧ (t.duc.retuneList ≠ [] → s.settings.retuneWindow ≤ t.retuningCount)
            ∧ OnlyGrants
                { s with
                  mail := t.mail
                  duc := { s.duc with retuneList := t.duc.retuneList, cells := t.duc.cells } } t)
    ∧ (s.mail.duc = [] → Becomes (exec .cellRetuneOrder s) s ∧ Becomes (exec .cellSilenceOrder s) s)

/-- The ATTACH is first a primary deep-wake event at its cell. Without service it is refused NO_SERVICE; at RETUNING,
SILENCING or SILENT, RETRY_LATER. A SID held by a LEAVING context is refused RETRY_LATER, one whose move finds the
cell full CELL_FULL; else the context is moved, its orphan mark removed, the attached counts follow, and an ACTIVE one
is sent ADMIT, with RESTRICT if restricted. A SID not held is refused FULL without a FREE context and CELL_FULL at a
full cell. Otherwise the lowest FREE index is allocated: under a FORBIDDEN entry it is refused and freed again; under
LOCAL it is ACTIVE with the entry's partner and sent ADMIT; under AUTHORIZE it is ATTACHING with a first attempt:
queued at the tail while no link carries or 32 requests are outstanding, sent at once where none waits before it, and
the unit is told nothing. Each new context has the record that R103 gives it, home group, restrictions and quota
included, and counts at its cell (under AUTHORIZE the count, and that the other contexts keep their records, are
stated where sending the queue takes no other context first). A new limited context is restricted under QUOTA with
balance 0. That the admission of a limited context with balance 0 leaves the low-notified flag clear is log entry 42.
(R79, R97, R99, R101, R102, R103, R104, R105, R163) -/
def Obligations.Attaching : Prop :=
  ∀ (s : State) (c : CellId) (sid : Sid),
    sidValid sid = true →
    (s.cell c).state.joined = true →
    (s.zone.service = false →
      Becomes (exec (.attach c.val sid) s)
        { (takeEvent c .primary true s) with ports := { (takeEvent c .primary true s).ports with deck := (takeEvent c .primary true s).ports.deck ++ [(c, .refuse .noService sid)] } })
    ∧ (s.zone.service = true → (s.cell c).state = .retuning ∨ (s.cell c).state = .silencing ∨ (s.cell c).state = .silent →
      Becomes (exec (.attach c.val sid) s) { s with ports := { s.ports with deck := s.ports.deck
        ++ [(c, .refuse .retryLater sid)] } })
    ∧ (s.zone.service = true → (s.cell c).state = .serving ∨ (s.cell c).state.dozing = true → ∀ e ∈ s.holderOf sid,
      if e.2.state = .leaving then
        Becomes (exec (.attach c.val sid) s) (emitDeck c (.refuse .retryLater sid) (takeEvent c .primary true s))
      else if c ≠ e.2.cell ∧ s.settings.cellLimit ≤ (s.cell c).attached then
        Becomes (exec (.attach c.val sid) s) (emitDeck c (.refuse .cellFull sid) (takeEvent c .primary true s))
      else
        Next (exec (.attach c.val sid) s) fun t =>
          t.context e.1 = some { e.2 with cell := c, orphan := none }
            ∧ (∀ k ∈ s.contextIndices, k ≠ e.1 → t.context k = s.context k)
            ∧ (c ≠ e.2.cell →
              (t.cell c).attached = (s.cell c).attached + 1
                ∧ (t.cell e.2.cell).attached = (s.cell e.2.cell).attached - 1)
            ∧ (c = e.2.cell → (t.cell c).attached = (s.cell c).attached)
            ∧ t.ports.deck =
              (takeEvent c .primary true s).ports.deck
                ++ (if e.2.state = .active then
                    (c, .admission sid e.1)
                      :: (if e.2.restrictions = ⟨false, false, false⟩ then [] else [(c, .restrict sid e.1)])
                  else [])
            ∧ t =
              { (takeEvent c .primary true s) with
                sbt := { s.sbt with contexts := t.sbt.contexts }
                duc := { s.duc with cells := t.duc.cells, lamp := t.duc.lamp }
                ports := { s.ports with deck := t.ports.deck } })
    ∧ (s.zone.service = true → (s.cell c).state = .serving ∨ (s.cell c).state.dozing = true → s.holderOf sid = none →
      2048 ≤ s.lowestFree → Becomes (exec (.attach c.val sid) s) (emitDeck c (.refuse .full sid) (takeEvent c .primary true s)))
    ∧ (s.zone.service = true → (s.cell c).state = .serving ∨ (s.cell c).state.dozing = true → s.holderOf sid = none →
      s.lowestFree < 2048 → s.settings.cellLimit ≤ (s.cell c).attached →
      Becomes (exec (.attach c.val sid) s) (emitDeck c (.refuse .cellFull sid) (takeEvent c .primary true s)))
    ∧ (s.zone.service = true → (s.cell c).state = .serving ∨ (s.cell c).state.dozing = true → s.holderOf sid = none →
      s.lowestFree < 2048 → (s.cell c).attached < s.settings.cellLimit → ContextsInOrder s →
      s.context s.lowestFree = none
        ∧ (∀ j : Nat, j < s.lowestFree → (s.context j).isSome = true)
        ∧ Next (exec (.attach c.val sid) s) fun t =>
          (∀ k ∈ s.contextIndices, (s.partnerEntry (s.homeGroup sid)).mode ≠ .authorize → t.context k = s.context k)
            ∧ t.settings = s.settings ∧ t.pzu = s.pzu ∧ t.lkm = s.lkm ∧ t.epc = s.epc ∧ t.tkq = s.tkq ∧ t.cfs = s.cfs
            ∧ t.mail = s.mail ∧ t.shipTime = s.shipTime ∧ t.pending = s.pending
            ∧ (match (s.partnerEntry (s.homeGroup sid)).mode with
              | .forbidden =>
                t.context s.lowestFree = none ∧ (t.cell c).attached = (s.cell c).attached
                  ∧ t.ports.deck = (takeEvent c .primary true s).ports.deck ++ [(c, .refuse .roamingNotAllowed sid)]
                    ∧ t.rge = s.rge
              | .local =>
                t.context s.lowestFree =
                  some
                    { state := .active
                      sid := sid
                      homeGroup := s.homeGroup sid
                      cell := c
                      orphan := none
                      restrictions := ⟨!s.settings.admissionUnlimited, false, false⟩
                      registration := .none
                      partner := some (s.partnerEntry (s.homeGroup sid)).partner
                      jurisdiction := some s.zone.jurisdiction
                      feeZone := none
                      quota := ⟨0, s.settings.admissionUnlimited, 100, 0, false, 0⟩
                      accumulator := none
                      held := none
                      leaving := none }
                  ∧ (t.cell c).attached = (s.cell c).attached + 1
                  ∧ t.ports.deck =
                    (takeEvent c .primary true s).ports.deck ++ [(c, .admission sid s.lowestFree)]
                      ++ (if s.settings.admissionUnlimited = true then [] else [(c, .restrict sid s.lowestFree)])
                  ∧ t.rge = s.rge
                  ∧ (s.settings.admissionUnlimited = false → (s.rte.attention.all (fun e => e.1 != s.lowestFree)) = true →
                    t.rte.attention = s.rte.attention ++ [(s.lowestFree, .empty)] ∧ t.condSet .quotaAttention = true)
              | .authorize =>
                (∃ y ∈ t.context s.lowestFree,
                  y =
                      { state := .attaching
                        sid := sid
                        homeGroup := s.homeGroup sid
                        cell := c
                        orphan := none
                        restrictions := ⟨!s.settings.admissionUnlimited, false, false⟩
                        registration := y.registration
                        partner := some (s.partnerEntry (s.homeGroup sid)).partner
                        jurisdiction := none
                        feeZone := none
                        quota := ⟨0, s.settings.admissionUnlimited, 100, 0, false, 0⟩
                        accumulator := none
                        held := none
                        leaving := none }
                    ∧ (y.registration = .queued 1 .attach ∨ y.registration = .sent 1 .attach))
                  ∧ (s.carryingLink = none ∨ 32 ≤ s.rge.outstanding.length →
                    (t.context s.lowestFree).map Context.registration = some (.queued 1 .attach)
                      ∧ t.rge = { s.rge with queue := s.rge.queue ++ [s.lowestFree] }
                      ∧ t.ports = (takeEvent c .primary true s).ports)
                  ∧ (s.rge.queue = [] → s.carryingLink ≠ none → s.rge.outstanding.length < 32 →
                    (t.context s.lowestFree).map Context.registration = some (.sent 1 .attach)
                      ∧ t.rge.queue = [] ∧ t.rge.outstanding.length = s.rge.outstanding.length + 1
                      ∧ t.ports.deck = (takeEvent c .primary true s).ports.deck)
                  ∧ (s.rge.queue = [] ∨ s.carryingLink = none ∨ 32 ≤ s.rge.outstanding.length →
                    (t.cell c).attached = (s.cell c).attached + 1 ∧ t.rte = s.rte
                      ∧ ∀ k ∈ s.contextIndices, t.context k = s.context k)))

/-- DETACH from its serving cell with its SID, SUB_RELEASE, and the grace deadline of an orphan release an ATTACHING or
ACTIVE context: its registration is cancelled, an open accumulator is closed into a ticket with reason DETACH, HOST or
CELL_LOST, and the context is FREE, off the attention list and off its cell's attached count; with held usage it stays
LEAVING with its counts complete. SUB_RELEASE and the deadline tell the unit by DETACH, or REFUSE(RETRY_LATER) for an
ATTACHING one, if its cell is joined. A DETACH that names another, LEAVING or FREE context, SID or cell changes
nothing; SUB_RELEASE is BAD_ARG above 2,047, NOT_FOUND for a FREE and STATE for a LEAVING context. The ship time
raised to the grace deadline, and that a deadline with no orphan does nothing, are the model's choice, log entry 3.
(R107, R108, R109, R110, R112, R132, R159) -/
def Obligations.Releases : Prop :=
  ∀ (s : State) (k : Nat) (sid : Sid) (c : CellId) (tag : Nat),
    tag < 256 →
    k < 65536 →
    (∀ x ∈ s.context k, x.state ≠ .leaving → sidValid x.sid = true → (s.cell x.cell).state.joined = true →
      Next (exec (.detach x.cell.val x.sid k) s) fun t =>
        (x.held = none →
            t.context k = none ∧ (t.cell x.cell).attached = (s.cell x.cell).attached - 1
              ∧ (t.rte.attention.all (fun e => e.1 != k)) = true
              ∧ (x.accumulator = none → t.tkq = s.tkq)
              ∧ (∀ a ∈ x.accumulator,
                t.tkq.tickets.length = s.tkq.tickets.length + 1
                  ∧ (t.tkq.tickets.getLast?).any
                      (fun u => u.seq == s.tkq.nextSeq && u.ctx == k && u.sid == x.sid && u.reason == .detach && u.key == a.key)
                    = true))
          ∧ (x.held.isSome = true →
            (t.context k).map Context.state = some .leaving ∧ (t.context k).bind Context.leaving = some ⟨.detach, true⟩
              ∧ (t.context k).bind Context.held = x.held ∧ (t.context k).bind Context.accumulator = none
              ∧ (t.context k).bind Context.orphan = none ∧ (t.context k).map Context.registration = some .none)
          ∧ (match x.registration with
            | .none => True
            | .queued _ _ => k ∉ t.rge.queue
            | .sent _ _ => ∀ o ∈ t.rge.outstanding, o.ctx = k → o.abandoned = true)
          ∧ (∀ j ∈ s.contextIndices, j ≠ k → t.context j = s.context j)
          ∧ OnlyCharging s t)
    ∧ (sidValid sid = true → (s.cell c).state.joined = true →
      ((s.context k).all (fun x => x.state == .leaving || x.sid != sid || x.cell != c)) = true →
      Becomes (exec (.detach c.val sid k) s) s)
    ∧ (Ready 0x32 s → k < 2048 → ∀ x ∈ s.context k, x.state ≠ .leaving →
      Next (exec (.subRelease tag k) s) fun t =>
        (x.held = none →
            t.context k = none ∧ (t.cell x.cell).attached = (s.cell x.cell).attached - 1
              ∧ (t.rte.attention.all (fun e => e.1 != k)) = true
              ∧ (x.accumulator = none → t.tkq = s.tkq)
              ∧ (∀ a ∈ x.accumulator,
                t.tkq.tickets.length = s.tkq.tickets.length + 1
                  ∧ (t.tkq.tickets.getLast?).any
                      (fun u => u.seq == s.tkq.nextSeq && u.ctx == k && u.sid == x.sid && u.reason == .host && u.key == a.key)
                    = true))
          ∧ (x.held.isSome = true →
            (t.context k).map Context.state = some .leaving ∧ (t.context k).bind Context.leaving = some ⟨.host, true⟩
              ∧ (t.context k).bind Context.held = x.held ∧ (t.context k).bind Context.accumulator = none
              ∧ (t.context k).bind Context.orphan = none ∧ (t.context k).map Context.registration = some .none)
          ∧ (match x.registration with
            | .none => True
            | .queued _ _ => k ∉ t.rge.queue
            | .sent _ _ => ∀ o ∈ t.rge.outstanding, o.ctx = k → o.abandoned = true)
          ∧ (∀ j ∈ s.contextIndices, j ≠ k → t.context j = s.context j)
          ∧ OnlyCharging { s with ctp := { s.ctp with inbound := t.ctp.inbound, outbound := t.ctp.outbound } } t
          ∧ Answered s t tag 0x32 (be 2 k) .ok []
          ∧ ((s.cell x.cell).state.joined = true →
            (s.sentSince t).head?
              = some (x.cell, if x.state = .active then .detach x.sid k else .refuse .retryLater x.sid)))
    ∧ (Ready 0x32 s →
      (2047 < k → Replies (exec (.subRelease tag k) s) tag 0x32 (be 2 k) .badArg [] s)
      ∧ (k ≤ 2047 → s.context k = none → Replies (exec (.subRelease tag k) s) tag 0x32 (be 2 k) .notFound [] s)
      ∧ (k ≤ 2047 → (s.context k).any (fun x => x.state == .leaving) = true →
        Replies (exec (.subRelease tag k) s) tag 0x32 (be 2 k) .state [] s))
    ∧ (∀ x ∈ s.context k, x.state ≠ .leaving → ∀ d ∈ x.orphan,
      Next (exec (.graceDeadline k) s) fun t =>
        (x.held = none →
            t.context k = none ∧ (t.cell x.cell).attached = (s.cell x.cell).attached - 1
              ∧ (t.rte.attention.all (fun e => e.1 != k)) = true
              ∧ (x.accumulator = none → t.tkq = s.tkq)
              ∧ (∀ a ∈ x.accumulator,
                t.tkq.tickets.length = s.tkq.tickets.length + 1
                  ∧ (t.tkq.tickets.getLast?).any
                      (fun u => u.seq == s.tkq.nextSeq && u.ctx == k && u.sid == x.sid && u.reason == .cellLost && u.key == a.key)
                    = true))
          ∧ (x.held.isSome = true →
            (t.context k).map Context.state = some .leaving ∧ (t.context k).bind Context.leaving = some ⟨.cellLost, true⟩
              ∧ (t.context k).bind Context.held = x.held ∧ (t.context k).bind Context.accumulator = none
              ∧ (t.context k).bind Context.orphan = none ∧ (t.context k).map Context.registration = some .none)
          ∧ (match x.registration with
            | .none => True
            | .queued _ _ => k ∉ t.rge.queue
            | .sent _ _ => ∀ o ∈ t.rge.outstanding, o.ctx = k → o.abandoned = true)
          ∧ (∀ j ∈ s.contextIndices, j ≠ k → t.context j = s.context j)
          ∧ OnlyCharging { s with shipTime := max s.shipTime d } t
          ∧ ((s.cell x.cell).state.joined = true →
            (s.sentSince t).head?
              = some (x.cell, if x.state = .active then .detach x.sid k else .refuse .retryLater x.sid)))
    ∧ ((s.context k).bind Context.orphan = none → Becomes (exec (.graceDeadline k) s) s)

/-- When the SBT takes the change: an ATTACHING context is refused NO_SERVICE, if its cell is joined, and FREE; an ACTIVE
one loses its orphan mark and registration and is LEAVING for want of service, its counts not complete while its cell
still reports; where the cell is SILENT, LOST, DISABLED or ABSENT, it is FREE, or LEAVING with complete counts if
usage is held; a LEAVING one is untouched. With no change delivered nothing happens (log entry 2). (R113, R114, R132,
R108) -/
def Obligations.WatersWithoutService : Prop :=
  ∀ (s : State) (k : Nat),
    (s.mail.sbt = 0 → Becomes (exec .serviceOffRelease s) s)
    ∧ (0 < s.mail.sbt → ∀ x ∈ s.context k,
      Next (exec .serviceOffRelease s) fun t =>
        (x.state = .attaching →
          t.context k = none
            ∧ ((s.cell x.cell).state.joined = true → (x.cell, .refuse .noService x.sid) ∈ s.sentSince t))
          ∧ (x.state = .active →
            ((s.cell x.cell).state.quiet = false →
              t.context k =
                some { x with state := .leaving, orphan := none, registration := .none, leaving := some ⟨.serviceOff, false⟩ })
            ∧ ((s.cell x.cell).state.quiet = true → x.held = none → t.context k = none)
            ∧ ((s.cell x.cell).state.quiet = true → x.held.isSome = true →
              t.context k =
                some { x with state := .leaving, orphan := none, registration := .none, leaving := some ⟨.serviceOff, true⟩ }))
          ∧ (x.state = .leaving → t.context k = some x)
          ∧ OnlyCharging { s with mail := { s.mail with sbt := s.mail.sbt - 1 } } t)

/-- An answer, ACCEPT or REJECT, with no entry of its number, on another link than its entry's, or on a link that is
neither CARRYING nor DRAINING is counted unmatched and nothing else. Otherwise the entry is removed, and R123 is
tested after the effect of the answer, or of the failure at the deadline or the departure (that it comes after is the
model's choice, log entry 49). An abandoned entry does nothing more; a stale answer rejoins the queue with the same
attempt and purpose; an ACCEPT admits the attaching context with the partner sent, or gives the active one partner and
jurisdiction and lifts ZONE; a REJECT refuses the attaching context with the cause, any unlisted one being
SHORE_REFUSED, and frees it, or takes partner and jurisdiction from the active one and restricts it under ZONE. At the
deadline the entry is removed, and unless abandoned the attempt failed: the first is tried again, the second refuses
an attach with SHORE_TIMEOUT or sets REG_FAILURE and restricts. The ship time raised to the deadline, and that a
deadline with no entry does nothing, are the model's choice, log entry 3. When a link has left CARRYING and DRAINING
its entries are removed in the order of the table, the attempt of each that is not abandoned fails before the next is
removed, and R123 is tested after each (log entry 36); afterwards no entry is on that link, the others stand first and
unchanged, and nothing but registrations has changed. (R123, R125, R126, R127, R128, R129, R130, R131) -/
def Obligations.RegistrationAnswersAndTimeouts : Prop :=
  ∀ (s : State) (l : LinkId) (correlation cause result : Nat),
    correlation < 65536 →
    cause < 256 →
    result ≤ 1 →
    ((s.link l).state ≠ .off →
      ((s.entryOf correlation).all (fun o => o.link != l) = true ∨ ¬((s.link l).state = .carrying
        ∨ (s.link l).state = .draining)) →
      Becomes (exec (.regAns l.val correlation result cause) s)
        { s with rge := { s.rge with unmatched := min 65535 (s.rge.unmatched + 1) } })
    ∧ (∀ o ∈ s.entryOf correlation, (s.link o.link).state = .carrying ∨ (s.link o.link).state = .draining →
      (o.abandoned = true → Becomes (exec (.regAns o.link.val correlation result cause) s) (sendQueued (s.withoutEntry o)))
      ∧ (o.abandoned = false → ∀ x ∈ s.context o.ctx,
        match x.registration with
        | .sent attempt purpose =>
          ((o.zone ≠ s.pzu.current ∨ o.jurisdiction ≠ s.zone.jurisdiction ∨ (s.partnerEntry x.homeGroup).mode ≠ .authorize
                ∨ (s.partnerEntry x.homeGroup).partner ≠ o.partner) →
            Becomes (exec (.regAns o.link.val correlation result cause) s)
              (sendQueued (enqueue o.ctx attempt purpose (s.withoutEntry o))))
          ∧ (¬(o.zone ≠ s.pzu.current ∨ o.jurisdiction ≠ s.zone.jurisdiction ∨ (s.partnerEntry x.homeGroup).mode ≠ .authorize
                ∨ (s.partnerEntry x.homeGroup).partner ≠ o.partner) →
            match purpose with
            | .attach =>
              Becomes (exec (.regAns o.link.val correlation 0 cause) s)
                  (sendQueued
                    (admitContext o.ctx
                      (setContext o.ctx { x with registration := .none, partner := some o.partner }
                        (s.withoutEntry o))))
                ∧ Becomes (exec (.regAns o.link.val correlation 1 cause) s)
                  (sendQueued
                    (freeContext o.ctx
                      (sendDeck x.cell
                        (.refuse
                          (if cause = 1 then .subscriberUnknown
                          else if cause = 2 then .subscriberBarred
                          else if cause = 3 then .noAgreement
                          else .shoreRefused) x.sid)
                        (setContext o.ctx { x with registration := .none }
                          (s.withoutEntry o)))))
            | .rereg =>
              Becomes (exec (.regAns o.link.val correlation 0 cause) s)
                  (sendQueued
                    (restrict o.ctx (fun r => { r with zone := false })
                      (setContext o.ctx
                        { x with registration := .none, partner := some o.partner, jurisdiction := some o.jurisdiction }
                        (s.withoutEntry o))))
                ∧ Becomes (exec (.regAns o.link.val correlation 1 cause) s)
                  (sendQueued
                    (restrict o.ctx (fun r => { r with zone := true })
                      (setContext o.ctx { x with registration := .none, partner := none, jurisdiction := none }
                        (s.withoutEntry o)))))
        | _ => True))
    ∧ (s.entryOf correlation = none → Becomes (exec (.regTimeoutDeadline correlation) s) s)
    ∧ (∀ o ∈ s.entryOf correlation,
      (o.abandoned = true → Becomes (exec (.regTimeoutDeadline correlation) s) (sendQueued (State.withoutEntry o { s with shipTime := max s.shipTime o.deadline })))
      ∧ (o.abandoned = false → ∀ x ∈ s.context o.ctx,
        match x.registration with
        | .sent attempt purpose =>
          Becomes (exec (.regTimeoutDeadline correlation) s)
            (sendQueued (State.attemptFailed o x attempt purpose (State.withoutEntry o { s with shipTime := max s.shipTime o.deadline })))
        | _ => True))
    ∧ (s.rge.outstanding.all (fun o => o.link != l) = true → linkDeparted l s = s)
    ∧ (OutstandingLaw s → s.carryingLink ≠ some l → ∀ o ∈ s.rge.outstanding.find? (fun p : Outstanding => p.link == l),
      (o.abandoned = true → linkDeparted l s = linkDeparted l (sendQueued (s.withoutEntry o)))
      ∧ (o.abandoned = false → ∀ x ∈ s.context o.ctx,
        match x.registration with
        | .sent attempt purpose =>
          linkDeparted l s = linkDeparted l (sendQueued (State.attemptFailed o x attempt purpose (s.withoutEntry o)))
        | _ => True))
    ∧ (OutstandingLaw s → s.carryingLink ≠ some l →
      (linkDeparted l s).rge.outstanding.all (fun o => o.link != l) = true
        ∧ s.rge.outstanding.filter (fun o => o.link != l) <+: (linkDeparted l s).rge.outstanding
        ∧ OnlyRegistration s (linkDeparted l s))

/-- After R123 the queue is empty, no link carries or 32 entries are outstanding; the entries already there stay, and
nothing changes outside the registrations. The number used is the next correlation number unless an entry holds it,
and never one that an entry holds. A single context queued under an AUTHORIZE entry, with a carrying link and room, is
SENT: its entry holds the number, zone, jurisdiction, partner, link and deadline, the next number follows, wrapping at
65,535, and the REG_REQ goes out on the link. From a queue of several the head goes first, and sending then goes on
with the rest, in the state the head has left: under AUTHORIZE the same entry and REG_REQ; under LOCAL an attach is
admitted (R105) with the entry's partner, and a re-registration gets partner and jurisdiction and loses ZONE; under
FORBIDDEN an attach is sent REFUSE ROAMING_NOT_ALLOWED and freed, and a re-registration loses its partner and gains
ZONE. None of these four settlements takes an outstanding slot. Joining the queue sets the registration to QUEUED with
the attempt and purpose given, at the tail. (R121, R122, R123, R124) -/
def Obligations.SendingRegistrations : Prop :=
  ∀ (s : State) (k attempt : Nat) (purpose : Purpose),
    ((sendQueued s).rge.queue = [] ∨ s.carryingLink = none ∨ 32 ≤ (sendQueued s).rge.outstanding.length)
    ∧ (s.rge.outstanding <+: (sendQueued s).rge.outstanding ∧ OnlyRegistration s (sendQueued s))
    ∧ (s.carryingLink = none ∨ 32 ≤ s.rge.outstanding.length → sendQueued s = s)
    ∧ (OutstandingLaw s → s.rge.outstanding.all (fun o => o.correlation != s.correlation) = true)
    ∧ (s.rge.outstanding.all (fun o => o.correlation != s.rge.nextCorrelation) = true → s.correlation = s.rge.nextCorrelation)
    ∧ (s.rge.queue = [k] → s.rge.outstanding.length < 32 → ∀ l ∈ s.carryingLink, ∀ x ∈ s.context k,
      x.registration = .queued attempt purpose → (s.partnerEntry x.homeGroup).mode = .authorize →
      sendQueued s =
        { s with
          rge :=
            { s.rge with
              queue := []
              nextCorrelation := (s.correlation + 1) % 65536
              outstanding :=
                s.rge.outstanding
                  ++ [{ correlation := s.correlation
                        ctx := k
                        zone := s.pzu.current
                        jurisdiction := s.zone.jurisdiction
                        partner := (s.partnerEntry x.homeGroup).partner
                        link := l
                        deadline := s.shipTime + 1000 * s.settings.regTimeout
                        abandoned := false }] }
          sbt :=
            { s.sbt with
              contexts :=
                Assoc.put s.sbt.contexts k
                  { x with
                    registration := .sent attempt purpose
                    partner := if purpose = .attach then some (s.partnerEntry x.homeGroup).partner else x.partner } }
          ports :=
            { s.ports with
              terminal :=
                s.ports.terminal
                  ++ [(l, .regReq s.correlation x.sid s.zone.jurisdiction (s.partnerEntry x.homeGroup).partner s.settings.shipId)] } })
    ∧ (∀ l ∈ s.carryingLink, s.rge.queue.head? = some k → s.rge.outstanding.length < 32 →
      let u : State := { s with rge := { s.rge with queue := s.rge.queue.tail } }
      (s.context k = none → sendQueued s = sendQueued u)
        ∧ ∀ x ∈ s.context k,
          (x.registration = .queued attempt purpose →
            let e := s.partnerEntry x.homeGroup
            (e.mode = .authorize →
              sendQueued s =
                sendQueued
                  { u with
                    rge :=
                      { u.rge with
                        nextCorrelation := (s.correlation + 1) % 65536
                        outstanding :=
                          s.rge.outstanding
                            ++ [{ correlation := s.correlation
                                  ctx := k
                                  zone := s.pzu.current
                                  jurisdiction := s.zone.jurisdiction
                                  partner := e.partner
                                  link := l
                                  deadline := s.shipTime + 1000 * s.settings.regTimeout
                                  abandoned := false }] }
                    sbt :=
                      { s.sbt with
                        contexts :=
                          Assoc.put s.sbt.contexts k
                            { x with
                              registration := .sent attempt purpose
                              partner := if purpose = .attach then some e.partner else x.partner } }
                    ports :=
                      { s.ports with
                        terminal :=
                          s.ports.terminal
                            ++ [(l, .regReq s.correlation x.sid s.zone.jurisdiction e.partner s.settings.shipId)] } })
              ∧ (e.mode = .local → purpose = .attach →
                sendQueued s =
                  sendQueued (admitContext k (setContext k { x with registration := .none, partner := some e.partner } u)))
              ∧ (e.mode = .local → purpose = .rereg →
                sendQueued s =
                  sendQueued
                    (restrict k (fun r => { r with zone := false })
                      (setContext k
                        { x with
                          registration := .none
                          partner := some e.partner
                          jurisdiction := some s.zone.jurisdiction } u)))
              ∧ (e.mode = .forbidden → purpose = .attach →
                sendQueued s =
                  sendQueued
                    (freeContext k
                      (sendDeck x.cell (.refuse .roamingNotAllowed x.sid) (setContext k { x with registration := .none } u))))
              ∧ (e.mode = .forbidden → purpose = .rereg →
                sendQueued s =
                  sendQueued
                    (restrict k (fun r => { r with zone := true })
                      (setContext k { x with registration := .none, partner := none } u)))))
    ∧ (∀ x ∈ s.context k,
      enqueue k attempt purpose s =
        sendQueued
          (setContext k { x with registration := .queued attempt purpose }
            { s with rge := { s.rge with queue := s.rge.queue ++ [k] } }))

/-- When the RGE takes the change, in a state that meets ContextLaw (O8; an ACTIVE context's registration has purpose
REREG, R121), every context that was ACTIVE ends as its entry says: FORBIDDEN, partner none, restricted under ZONE, no
registration; LOCAL, the entry's partner and the current jurisdiction, not restricted under ZONE, no registration;
AUTHORIZE with a registration SENT, unchanged; AUTHORIZE with one QUEUED, unchanged but that it may have been sent;
AUTHORIZE with none, unchanged where partner and jurisdiction are as they are, else a registration with attempt 1 and
purpose REREG is queued or sent. With no event delivered nothing happens (log entry 2). SUB_REREGISTER is BAD_ARG
above 2,047, NOT_FOUND for a FREE context, STATE for one not ACTIVE or with a request SENT, OK without effect for one
QUEUED, and otherwise OK and the context joins the queue with attempt 1 and purpose REREG. (R133, R134, R132, R121) -/
def Obligations.ReevaluationAndReregistering : Prop :=
  ∀ (s : State) (k tag : Nat),
    tag < 256 →
    k < 65536 →
    (s.mail.rge = 0 → Becomes (exec .reevaluation s) s)
    ∧ (0 < s.mail.rge → ContextLaw s → ∀ x ∈ s.context k, x.state = .active →
      Next (exec .reevaluation s) fun t =>
        OnlyRegistration { s with mail := { s.mail with rge := s.mail.rge - 1 } } t
          ∧ (match (s.partnerEntry x.homeGroup).mode with
            | .forbidden =>
              (t.context k).bind Context.partner = none
                ∧ (t.context k).map (fun y => y.restrictions.zone) = some true
                ∧ (t.context k).map Context.registration = some .none
            | .local =>
              (t.context k).bind Context.partner = some (s.partnerEntry x.homeGroup).partner
                ∧ (t.context k).bind Context.jurisdiction = some s.zone.jurisdiction
                ∧ (t.context k).map (fun y => y.restrictions.zone) = some false
                ∧ (t.context k).map Context.registration = some .none
            | .authorize =>
              match x.registration with
              | .sent _ _ => t.context k = some x
              | .queued attempt purpose =>
                t.context k = some x ∨ t.context k = some { x with registration := .sent attempt purpose }
              | .none =>
                if x.partner = some (s.partnerEntry x.homeGroup).partner ∧ x.jurisdiction = some s.zone.jurisdiction then
                  t.context k = some x
                else
                  t.context k = some { x with registration := .queued 1 .rereg }
                    ∨ t.context k = some { x with registration := .sent 1 .rereg }))
    ∧ (Ready 0x33 s →
      (2047 < k → Replies (exec (.subReregister tag k) s) tag 0x33 (be 2 k) .badArg [] s)
      ∧ (k ≤ 2047 → s.context k = none → Replies (exec (.subReregister tag k) s) tag 0x33 (be 2 k) .notFound [] s)
      ∧ (k ≤ 2047 → ∀ x ∈ s.context k,
        (x.state ≠ .active → Replies (exec (.subReregister tag k) s) tag 0x33 (be 2 k) .state [] s)
        ∧ (x.state = .active →
          match x.registration with
          | .sent _ _ => Replies (exec (.subReregister tag k) s) tag 0x33 (be 2 k) .state [] s
          | .queued _ _ => Replies (exec (.subReregister tag k) s) tag 0x33 (be 2 k) .ok [] s
          | .none =>
            Replies (exec (.subReregister tag k) s) tag 0x33 (be 2 k) .ok []
              (sendQueued
                (setContext k { x with registration := .queued 1 .rereg }
                  { s with rge := { s.rge with queue := s.rge.queue ++ [k] } })))))

/-- The EPC takes a delivered event of the reason given (log entry 16): with fewer than four epochs held and some cell
owing an end, the new epoch has the next number, the current zone, the class last handed, the newest generations,
those cells as its pending set and the cut timeout, and each of them is sent CUT. With no cell owing an end the new
epoch has an empty pending set, is COMPLETE at once with its cut timer stopped, no CUT is sent, and the retirement
check follows, by which it is the oldest, with cut state NONE, where no epoch waits between. A full ring forces its
oldest out, sets EPOCH_TIMEOUT and counts FORCED, and the new epoch is appended after that check, in either case.
USAGE_END strikes the cell from the set of the epoch that follows the one named, and changes nothing where it is not
there; a set emptied while WAITING makes the epoch COMPLETE and the retirement check follows. The cut timer empties
the set, makes the epoch TIMED_OUT and sets EPOCH_TIMEOUT. An EPOCH_OPEN with no event of its reason does nothing (log
entries 2, 16). USAGE_END is stated under the ring law (numbers below 256, R138). The ship time raised to the deadline
at an expiry, and that a stopped timer does not expire, are the model's choice, log entry 3. A retirement of the
oldest epoch makes the next one the oldest with cut state NONE, runs the boundary sweep, releases every generation but
the newest that no held epoch names, and raises the count COMPLETE or TIMEOUT by the cut state found, and the check
goes on; a full ring retires its oldest alike with FORCED before the append. The sweep leaves an accumulator whose
last epoch is held, moves one whose key is that under the newest epoch to the newest epoch, and closes any other with
the reason of the first differing field, in rising order. (R138, R139, R140, R141, R143, R145, R146, R147, R148) -/
def Obligations.Epochs : Prop :=
  ∀ (s : State) (reason : OpenReason) (c : CellId) (m : Nat),
    m < 256 →
    (s.mail.epc.contains reason = false → Becomes (exec (.epochOpen reason) s) s)
    ∧ (s.mail.epc.contains reason = true → s.epc.ring.length < 4 → (allCells.filter (fun d => (s.cell d).state.pends)) ≠ [] →
      Becomes (exec (.epochOpen reason) s)
        { s with
          mail := { s.mail with epc := s.mail.epc.erase reason }
          epc :=
            { s.epc with
              ring :=
                s.epc.ring
                  ++ [{ number := (s.newestEpoch.number + 1) % 256
                        reason := reason
                        zone := s.pzu.current
                        linkClass := s.lkm.classHanded
                        tariffGen := s.newestTariff.number
                        partnerGen := s.newestPartner.number
                        opened := s.shipTime
                        pendingSet := allCells.filter (fun d => (s.cell d).state.pends)
                        cut := .waiting
                        cutTimer := some (s.shipTime + 1000 * s.settings.cutTimeout) }] }
          ports :=
            { s.ports with
              deck :=
                s.ports.deck
                  ++ (allCells.filter (fun d => (s.cell d).state.pends)).map
                    (fun d => (d, .cut ((s.newestEpoch.number + 1) % 256))) } })
    ∧ (s.mail.epc.contains reason = true → s.epc.ring.length < 4 → (allCells.filter (fun d => (s.cell d).state.pends)) = [] →
      Becomes (exec (.epochOpen reason) s)
          (retirementCheck
            { s with
              mail := { s.mail with epc := s.mail.epc.erase reason }
              epc :=
                { s.epc with
                  ring :=
                    s.epc.ring
                      ++ [{ number := (s.newestEpoch.number + 1) % 256
                            reason := reason
                            zone := s.pzu.current
                            linkClass := s.lkm.classHanded
                            tariffGen := s.newestTariff.number
                            partnerGen := s.newestPartner.number
                            opened := s.shipTime
                            pendingSet := []
                            cut := .complete
                            cutTimer := none }] } })
        ∧ Next (exec (.epochOpen reason) s) fun t =>
          (∀ f ∈ s.sentSince t, f.2 ≠ .cut ((s.newestEpoch.number + 1) % 256))
            ∧ t.newestEpoch.pendingSet = [] ∧ t.newestEpoch.cutTimer = none
            ∧ t.newestEpoch.cut =
              if s.epc.ring.tail.all (fun e => e.cut == .complete || e.cut == .timedOut) = true ∧ s.epc.ring ≠ [] then .none
              else .complete)
    ∧ (s.mail.epc.contains reason = true → 1 ≤ s.epc.ring.length →
      Next (exec (.epochOpen reason) s) fun t =>
        t.newestEpoch.number = (s.newestEpoch.number + 1) % 256 ∧ t.newestEpoch.reason = reason
          ∧ t.newestEpoch.zone = s.pzu.current ∧ t.newestEpoch.linkClass = s.lkm.classHanded
          ∧ t.newestEpoch.tariffGen = s.newestTariff.number ∧ t.newestEpoch.partnerGen = s.newestPartner.number
          ∧ t.newestEpoch.opened = s.shipTime ∧ t.mail = { s.mail with epc := s.mail.epc.erase reason }
          ∧ (4 = s.epc.ring.length → t.condSet .epochTimeout = true ∧ t.epc.ring.length ≤ 4
            ∧ t.epc.retiredForced = min 65535 (s.epc.retiredForced + 1))
          ∧ t.settings = s.settings ∧ t.pzu = s.pzu ∧ t.lkm = s.lkm ∧ t.cap = s.cap ∧ t.cfs = s.cfs ∧ t.shipTime = s.shipTime
          ∧ t.pending = s.pending ∧ t.ports.terminal = s.ports.terminal ∧ t.duc = { s.duc with lamp := t.duc.lamp })
    ∧ ((s.cell c).state.joined = true → RingLaw s → ∀ i : Fin 3,
      ∀ e ∈ s.epc.ring[i.val]?, ∀ f ∈ s.epc.ring[i.val + 1]?,
        Becomes (exec (.usageEnd c.val e.number) s)
          (if c ∈ f.pendingSet ∧ f.pendingSet.filter (· != c) = [] ∧ f.cut = .waiting then
            retirementCheck (setRing (s.epc.ring.set (i.val + 1) { f with pendingSet := [], cut := .complete, cutTimer := none }) s)
          else retirementCheck (setRing (s.epc.ring.set (i.val + 1) { f with pendingSet := f.pendingSet.filter (· != c) }) s)))
    ∧ ((s.cell c).state.joined = true → (s.epc.ring.dropLast.all (fun e => e.number != m)) = true →
      Becomes (exec (.usageEnd c.val m) s) (retirementCheck s))
    ∧ (RingLaw s → ∀ e ∈ s.heldEpoch m, e.cut = .waiting → ∀ d ∈ e.cutTimer,
      Becomes (exec (.cutTimerExpiry m) s)
        (retirementCheck
          (setCond .epochTimeout
            { s with
              shipTime := max s.shipTime d
              epc :=
                { s.epc with
                  ring :=
                    s.epc.ring.map
                      (fun f => if f.number = m then { f with pendingSet := [], cut := .timedOut, cutTimer := none } else f) } })))
    ∧ ((s.heldEpoch m).all (fun e => e.cut != .waiting || e.cutTimer.isNone) = true → Becomes (exec (.cutTimerExpiry m) s) s)
    ∧ ((∀ f ∈ s.epc.ring[1]?, f.cut = .none ∨ f.cut = .waiting) → retirementCheck s = s)
    ∧ (∀ f ∈ s.epc.ring[1]?, f.cut = .complete ∨ f.cut = .timedOut →
      retirementCheck s ≠ s ∧ (retirementCheck s).newestEpoch.number = s.newestEpoch.number
        ∧ (∀ g ∈ (retirementCheck s).epc.ring[1]?, g.cut = .none ∨ g.cut = .waiting))
    ∧ (∀ f ∈ s.epc.ring[1]?, f.cut = .complete →
      retirementCheck s =
        retirementCheck
          (let u := s.retired f (s.epc.ring.drop 2)
          { u with epc := { u.epc with retiredComplete := min 65535 (s.epc.retiredComplete + 1) } }))
    ∧ (∀ f ∈ s.epc.ring[1]?, f.cut = .timedOut →
      retirementCheck s =
        retirementCheck
          (let u := s.retired f (s.epc.ring.drop 2)
          { u with epc := { u.epc with retiredTimeout := min 65535 (s.epc.retiredTimeout + 1) } }))
    ∧ (s.mail.epc.contains reason = true → s.epc.ring.length = 4 → (allCells.filter (fun d => (s.cell d).state.pends)) ≠ [] →
      ∀ f ∈ s.epc.ring[1]?,
      Next (exec (.epochOpen reason) s) fun t =>
        let w := setCond .epochTimeout { s with mail := { s.mail with epc := s.mail.epc.erase reason } }
        let u := w.retired { f with pendingSet := [], cutTimer := none } (s.epc.ring.drop 2)
        let v := retirementCheck { u with epc := { u.epc with retiredForced := min 65535 (s.epc.retiredForced + 1) } }
        t.epc = { v.epc with ring := v.epc.ring ++ [t.newestEpoch] } ∧ t.newestEpoch.cut = .waiting
          ∧ t.sbt = v.sbt ∧ t.tkq = v.tkq ∧ t.rte = v.rte ∧ t.rge = v.rge ∧ t.ctp = v.ctp)
    ∧ (s.mail.epc.contains reason = true → s.epc.ring.length = 4 → ∀ f ∈ s.epc.ring[1]?,
      let pending := allCells.filter (fun d => (s.cell d).state.pends)
      let w := setCond .epochTimeout { s with mail := { s.mail with epc := s.mail.epc.erase reason } }
      let u := w.retired { f with pendingSet := [], cutTimer := none } (s.epc.ring.drop 2)
      let v := retirementCheck { u with epc := { u.epc with retiredForced := min 65535 (s.epc.retiredForced + 1) } }
      let z : State :=
        { v with
          epc :=
            { v.epc with
              ring :=
                v.epc.ring
                  ++ [{ number := (s.newestEpoch.number + 1) % 256
                        reason := reason
                        zone := s.pzu.current
                        linkClass := s.lkm.classHanded
                        tariffGen := s.newestTariff.number
                        partnerGen := s.newestPartner.number
                        opened := s.shipTime
                        pendingSet := pending
                        cut := if pending = [] then .complete else .waiting
                        cutTimer := if pending = [] then none else some (s.shipTime + 1000 * s.settings.cutTimeout) }] }
          ports :=
            { v.ports with
              deck := v.ports.deck ++ pending.map (fun d => (d, .cut ((s.newestEpoch.number + 1) % 256))) } }
      Becomes (exec (.epochOpen reason) s) (if pending = [] then retirementCheck z else z))
    ∧ (ContextsInOrder s → ∀ k : Nat, ∀ x ∈ s.context k,
      let u := boundarySweep s
      let made := (u.tkq.tickets.drop s.tkq.tickets.length).filter (fun v => v.ctx == k)
      match x.accumulator with
      | none => u.context k = some x ∧ made = []
      | some a =>
        let key := s.keyUnder x.homeGroup s.newestEpoch
        if (s.heldEpoch a.lastEpoch).isSome = true then u.context k = some x ∧ made = []
        else if a.key = key then
          u.context k = some { x with accumulator := some { a with lastEpoch := s.newestEpoch.number } } ∧ made = []
        else
          u.context k = (closeAccumulator k (a.key.difference key) s).context k
            ∧ made.map (fun v => (v.key, v.reason)) = [(a.key, a.key.difference key)])
    ∧ (ContextsInOrder s →
      let u := boundarySweep s
      s.tkq.tickets <+: u.tkq.tickets
        ∧ (u.tkq.tickets.drop s.tkq.tickets.length).Pairwise (fun v w => v.ctx < w.ctx) ∧ OnlyCharging s u)

/-- A debit of an unlimited context changes nothing. A limited balance above the debit falls by it; otherwise it becomes
0, the overrun rises by the shortfall, saturating, and QUOTA is added to the restrictions. After the debit: a balance
that fell from above 0 to 0 puts the context on the attention list as EMPTY, at the tail or by upgrade in place;
otherwise, with the low-notified flag clear and the balance at or below floor(last grant × low mark ÷ 1,000), it joins
as LOW, keeping the reason of an entry that is there; each sets the flag and each join or upgrade sets
QUOTA_ATTENTION. Other contexts, tickets and everything else keep their values. Any change of a context's restriction
set sends, for an ACTIVE context whose serving cell is joined, RESTRICT when the set becomes non-empty and LIFT when
it becomes empty, and nothing otherwise; nothing else changes. (R115, R161, R162, R163) -/
def Obligations.QuotaDebit : Prop :=
  ∀ (s : State) (k d : Nat) (f : Restrictions → Restrictions),
    (s.context k = none ∨ (s.context k).any (fun x => x.quota.unlimited) = true → debit k d s = s)
    ∧ (∀ x ∈ s.context k, x.quota.unlimited = false →
      (d < x.quota.balance →
        ((debit k d s).context k).map (fun y => y.quota.balance) = some (x.quota.balance - d)
          ∧ ((debit k d s).context k).map (fun y => y.quota.overrun) = some x.quota.overrun
          ∧ ((debit k d s).context k).map Context.restrictions = some x.restrictions ∧ (debit k d s).ports = s.ports)
      ∧ (x.quota.balance ≤ d →
        ((debit k d s).context k).map (fun y => y.quota.balance) = some 0
          ∧ ((debit k d s).context k).map (fun y => y.quota.overrun)
            = some (min maxMoney (x.quota.overrun + (d - x.quota.balance)))
          ∧ ((debit k d s).context k).map Context.restrictions = some { x.restrictions with quota := true }
          ∧ (debit k d s).ports.deck
            = s.ports.deck
              ++ (if x.state = .active ∧ x.restrictions = ⟨false, false, false⟩ ∧ (s.cell x.cell).state.joined = true then
                  [(x.cell, .restrict x.sid k)]
                else [])))
    ∧ (∀ x ∈ s.context k, x.quota.unlimited = false →
      if 0 < x.quota.balance ∧ x.quota.balance ≤ d then
        ((debit k d s).context k).map (fun y => y.quota.lowNotified) = some true
          ∧ ((debit k d s).rte.attention.find? (fun e => e.1 == k)).map Prod.snd = some .empty
          ∧ (debit k d s).rte.attention.map Prod.fst
            = (if s.rte.attention.any (fun e => e.1 == k) then s.rte.attention.map Prod.fst
              else s.rte.attention.map Prod.fst ++ [k])
          ∧ ((s.rte.attention.find? (fun e => e.1 == k)).map Prod.snd ≠ some .empty →
            (debit k d s).condSet .quotaAttention = true)
      else if x.quota.lowNotified = false ∧ x.quota.balance - d ≤ x.quota.lastGrant * x.quota.lowMark / 1000 then
        ((debit k d s).context k).map (fun y => y.quota.lowNotified) = some true
          ∧ (debit k d s).rte.attention
            = (if s.rte.attention.any (fun e => e.1 == k) then s.rte.attention else s.rte.attention ++ [(k, .low)])
          ∧ (s.rte.attention.any (fun e => e.1 == k) = false → (debit k d s).condSet .quotaAttention = true)
      else
        ((debit k d s).context k).map (fun y => y.quota.lowNotified) = some x.quota.lowNotified
          ∧ (debit k d s).rte = s.rte ∧ (debit k d s).ctp = s.ctp)
    ∧ (∀ j : Nat, j ≠ k → (debit k d s).context j = s.context j)
    ∧ (debit k d s =
      { s with
        sbt := { s.sbt with contexts := (debit k d s).sbt.contexts }
        rte := { s.rte with attention := (debit k d s).rte.attention }
        ctp :=
          { s.ctp with
            conditions := (debit k d s).ctp.conditions
            noticePending := (debit k d s).ctp.noticePending }
        ports := { s.ports with deck := (debit k d s).ports.deck } })
    ∧ (s.context k = none → restrict k f s = s)
    ∧ (∀ x ∈ s.context k,
      restrict k f s =
        (let t := setContext k { x with restrictions := f x.restrictions } s
        { t with
          ports :=
            { t.ports with
              deck :=
                s.ports.deck
                  ++ (if x.state = .active ∧ (s.cell x.cell).state.joined = true then
                      if x.restrictions = ⟨false, false, false⟩ ∧ f x.restrictions ≠ ⟨false, false, false⟩ then
                        [(x.cell, .restrict x.sid k)]
                      else if x.restrictions ≠ ⟨false, false, false⟩ ∧ f x.restrictions = ⟨false, false, false⟩ then
                        [(x.cell, .lift x.sid k)]
                      else []
                    else []) } }))

/-- A context with an open accumulator ends with it empty, and one ticket at the tail holds the next sequence number, the
context, its SID, the key, epochs and bytes, the blocks with a part block counted as one, the charge with the
settlement rounded up (each saturating and marked SATURATED), the fee, the reason, the start and end times in seconds
(through the UTC base where one is set, else since reset, kept within 0 to 2^32 − 1), the flags LATE, SATURATED and
TIME_UNSET (present exactly without a UTC base), the balance after the debit of the settlement, and the overrun then,
absent where it is 0. The sequence number rises by 1 modulo 2^32, and TICKET_WATERMARK is set when the number queued
reaches the watermark. Other contexts keep their values, as does everything that charging may not change. With no open
accumulator nothing changes. That a settlement at a limit marks SATURATED is log entry 15. (R159, R168, R169, R177) -/
def Obligations.ClosingAnAccumulator : Prop :=
  ∀ (s : State) (k : Nat) (reason : CloseReason),
    ((s.context k).bind Context.accumulator = none → closeAccumulator k reason s = s)
    ∧ (∀ x ∈ s.context k, ∀ a ∈ x.accumulator,
      let settlement :=
        if 0 < a.resBytes then (a.values.price * a.values.multiplier + a.resThousandths + 999) / 1000
        else (a.resThousandths + 999) / 1000
      let blocks := a.blocks + (if 0 < a.resBytes then 1 else 0)
      let t := closeAccumulator k reason s
      let seconds : Nat → Nat := fun moment =>
        match s.ctp.utc with
        | none => min max32 (moment / 1000)
        | some b => min max32 ((b.second : Int) + ((moment : Int) - (b.shipTime : Int)) / 1000).toNat
      let q := (((debit k settlement s).context k).map Context.quota).getD x.quota
      let after := if a.resBytes = 0 ∧ a.resThousandths = 0 then x.quota else q
      t.tkq.tickets.dropLast = s.tkq.tickets
        ∧ (t.tkq.tickets.getLast?).any
            (fun u =>
              u.seq == s.tkq.nextSeq && u.ctx == k && u.sid == x.sid && u.key == a.key && u.firstEpoch == a.firstEpoch
                && u.lastEpoch == a.lastEpoch && u.up == a.up && u.down == a.down && u.reason == reason && u.late == a.late
                && u.feeApplied == a.feeApplied && u.balance == after.balance && u.overrun == (if after.overrun = 0 then none else some after.overrun)
                && u.startTime == seconds a.start && u.endTime == seconds s.shipTime && u.timeUnset == s.ctp.utc.isNone
                && (if a.resBytes = 0 ∧ a.resThousandths = 0 then
                    u.blocks == a.blocks && u.charge == a.charge && u.saturated == a.saturated
                  else
                    u.blocks == min maxBytes blocks && u.charge == min maxMoney (a.charge + settlement)
                      && u.saturated
                        == (a.saturated || decide (maxBytes < blocks) || decide (maxMoney < a.charge + settlement))))
          = true
        ∧ t.tkq.nextSeq = (s.tkq.nextSeq + 1) % 4294967296 ∧ t.tkq.holdList = s.tkq.holdList
        ∧ (t.context k).bind Context.accumulator = none
        ∧ (t.context k).map Context.quota = some after
        ∧ (t.tkq.tickets.length = s.settings.watermark → t.condSet .ticketWatermark = true))
    ∧ ((∀ j : Nat, j ≠ k → (closeAccumulator k reason s).context j = s.context j)
      ∧ OnlyCharging s (closeAccumulator k reason s))

/-- From a joined cell, a list of one entry. For a FREE or ATTACHING context it is counted as discarded and
USAGE_DISCARDED set. With usage held it is added to it, saturating. Otherwise it is rated under the epoch its number
names if that is held; if not, it is LATE: it raises the LATE entry count, saturating, is rated under the oldest held
epoch, and marks the accumulator it goes to LATE. In both cases alike: an open accumulator of that key takes the
bytes, whole blocks, charge and residuals as R157 lays down, with the entry fee once per zone, its first and last
epoch following, and the quota is debited; an empty one is opened, at the gate's leave, with the key's tariff values
and that epoch, and takes the entry; without the gate's leave the entry is held under the number the frame carried,
the context restricted under BACKLOG and TICKET_BACKLOG set. An accumulator of another key whose last epoch is not
newer is closed first, with the reason of the first field that differs, and the entry is then taken as with an empty
accumulator (with the contexts in rising order); for an older epoch than the last the accumulator stays, and the entry
becomes a LATE ticket of its own, debited and settled without a fee, or without the gate's leave is held. A list of
several entries is the first by itself and then the others. (R149, R155, R156, R157, R158, R160, R171, R172) -/
def Obligations.UsageEntries : Prop :=
  ∀ (s : State) (c : CellId) (number k up down : Nat) (entry : UsageEntry) (entries : List UsageEntry),
    (s.cell c).state.joined = true →
    number < 256 →
    k < 65536 →
    up < 4294967296 →
    down < 4294967296 →
    ((s.context k).all (fun x => x.state == .attaching) = true →
      Becomes (exec (.usage c.val number [⟨k, up, down⟩]) s)
        (setCond .usageDiscarded { s with rte := { s.rte with discarded := min max32 (s.rte.discarded + 1) } }))
    ∧ (∀ x ∈ s.context k, x.state ≠ .attaching → ∀ h ∈ x.held,
      Becomes (exec (.usage c.val number [⟨k, up, down⟩]) s)
        (setContext k { x with held := some ⟨min maxBytes (h.up + up), min maxBytes (h.down + down), h.epoch⟩ } s))
    ∧ (∀ x ∈ s.context k, x.state ≠ .attaching → x.held = none → ∀ a ∈ x.accumulator,
      a.key = s.keyUnder x.homeGroup (s.ratingEpoch number) → 0 < a.values.block →
      let e := s.ratingEpoch number
      let blocks := (a.resBytes + up + down) / a.values.block
      let thousandths := blocks * a.values.price * a.values.multiplier + a.resThousandths
      let fee :=
        if 0 < a.values.fee ∧ 0 < up + down ∧ x.feeZone ≠ some a.key.zone ∧ a.feeApplied = false then a.values.fee else 0
      let charge := thousandths / 1000 + fee
      Becomes (exec (.usage c.val number [⟨k, up, down⟩]) s)
        (debit k charge
          (setContext k
            { x with
              feeZone := if fee = 0 then x.feeZone else some a.key.zone
              accumulator :=
                some
                  { a with
                    lastEpoch := if s.epochAge a.lastEpoch < s.epochAge e.number then e.number else a.lastEpoch
                    firstEpoch := if s.epochAge e.number < s.epochAge a.firstEpoch then e.number else a.firstEpoch
                    up := min maxBytes (a.up + up)
                    down := min maxBytes (a.down + down)
                    blocks := min maxBytes (a.blocks + blocks)
                    charge := min maxMoney (a.charge + charge)
                    resBytes := (a.resBytes + up + down) % a.values.block
                    resThousandths := thousandths % 1000
                    feeApplied := a.feeApplied || decide (0 < fee)
                    late := a.late || (s.heldEpoch number).isNone
                    saturated :=
                      a.saturated || decide (maxBytes < a.up + up) || decide (maxBytes < a.down + down)
                        || decide (maxBytes < a.blocks + blocks) || decide (maxMoney < a.charge + charge) } }
            (s.lateCounted number))))
    ∧ (∀ x ∈ s.context k, x.state ≠ .attaching → x.held = none → x.accumulator = none →
      s.gateCount < 2048 →
      let e := s.ratingEpoch number
      let key := s.keyUnder x.homeGroup e
      let values := s.tariffValues key
      let blocks := (up + down) / values.block
      let thousandths := blocks * values.price * values.multiplier
      let fee := if 0 < values.fee ∧ 0 < up + down ∧ x.feeZone ≠ some key.zone then values.fee else 0
      0 < values.block → up + down ≤ maxBytes → thousandths / 1000 + fee ≤ maxMoney →
      Becomes (exec (.usage c.val number [⟨k, up, down⟩]) s)
        (debit k (thousandths / 1000 + fee)
          (setContext k
            { x with
              feeZone := if fee = 0 then x.feeZone else some key.zone
              accumulator :=
                some
                  { key := key
                    values := values
                    start := s.shipTime
                    firstEpoch := e.number
                    lastEpoch := e.number
                    up := up
                    down := down
                    blocks := blocks
                    charge := thousandths / 1000 + fee
                    resBytes := (up + down) % values.block
                    resThousandths := thousandths % 1000
                    feeApplied := decide (0 < fee)
                    late := (s.heldEpoch number).isNone
                    saturated := false } }
            (s.lateCounted number))))
    ∧ (∀ x ∈ s.context k, x.state ≠ .attaching → x.held = none → x.accumulator = none →
      2048 ≤ s.gateCount →
      Becomes (exec (.usage c.val number [⟨k, up, down⟩]) s)
        ((s.lateCounted number).heldBack k up down number x))
    ∧ (∀ x ∈ s.context k, x.state ≠ .attaching → x.held = none → ∀ a ∈ x.accumulator,
      a.key ≠ s.keyUnder x.homeGroup (s.ratingEpoch number) → s.gateCount < 2048 → ContextsInOrder s →
      let e := s.ratingEpoch number
      let late := (s.heldEpoch number).isNone
      Next (exec (.usage c.val number [⟨k, up, down⟩]) s) fun t =>
        OnlyCharging s t ∧ t.rte.lateEntries = (s.lateCounted number).rte.lateEntries ∧ t.tkq.tickets.dropLast = s.tkq.tickets
          ∧ (if s.epochAge e.number < s.epochAge a.lastEpoch then
            (t.context k).bind Context.accumulator = some a ∧ (t.context k).map Context.feeZone = some x.feeZone
              ∧ (t.tkq.tickets.getLast?).any
                  (fun u =>
                    u.reason == .late && u.late && u.ctx == k && u.sid == x.sid && u.key == s.keyUnder x.homeGroup e
                      && u.up == up && u.down == down && !u.feeApplied && u.firstEpoch == e.number && u.lastEpoch == e.number)
                = true
          else
            ((t.context k).bind Context.accumulator).any
                (fun b => b.key == s.keyUnder x.homeGroup e && b.up == up && b.down == down && b.start == s.shipTime && b.late == late
                  && b.firstEpoch == e.number && b.lastEpoch == e.number)
              = true
              ∧ (t.tkq.tickets.getLast?).any
                  (fun u => u.reason == a.key.difference (s.keyUnder x.homeGroup e) && u.ctx == k && u.key == a.key && u.up == a.up)
                = true))
    ∧ (∀ x ∈ s.context k, x.state ≠ .attaching → x.held = none → ∀ a ∈ x.accumulator,
      a.key ≠ s.keyUnder x.homeGroup (s.ratingEpoch number) → s.gateCount < 2048 →
      let e := s.ratingEpoch number
      let key := s.keyUnder x.homeGroup e
      let values := s.tariffValues key
      let blocks := (up + down) / values.block
      let thousandths := blocks * values.price * values.multiplier
      s.epochAge e.number < s.epochAge a.lastEpoch → 0 < values.block → up + down ≤ maxBytes → thousandths / 1000 ≤ maxMoney →
      Becomes (exec (.usage c.val number [⟨k, up, down⟩]) s)
        (handOver k
          { key := key
            values := values
            start := s.shipTime
            firstEpoch := e.number
            lastEpoch := e.number
            up := up
            down := down
            blocks := blocks
            charge := thousandths / 1000
            resBytes := (up + down) % values.block
            resThousandths := thousandths % 1000
            feeApplied := false
            late := true
            saturated := false }
          .late (debit k (thousandths / 1000) (s.lateCounted number))))
    ∧ (s.heldEpoch number = none → ∀ x ∈ s.context k, x.state ≠ .attaching → x.held = none →
      ∀ a ∈ x.accumulator, a.key = s.keyUnder x.homeGroup s.oldestEpoch →
      Next (exec (.usage c.val number [⟨k, up, down⟩]) s) fun t =>
        t.rte.lateEntries = min max32 (s.rte.lateEntries + 1) ∧ OnlyCharging s t
          ∧ ((t.context k).bind Context.accumulator).any (fun b => b.late && b.up == min maxBytes (a.up + up)) = true)
    ∧ (∀ x ∈ s.context k, x.state ≠ .attaching → x.held = none → ∀ a ∈ x.accumulator,
      a.key ≠ s.keyUnder x.homeGroup (s.ratingEpoch number) → 2048 ≤ s.gateCount → ContextsInOrder s →
      let e := s.ratingEpoch number
      if s.epochAge e.number < s.epochAge a.lastEpoch then
        Becomes (exec (.usage c.val number [⟨k, up, down⟩]) s) ((s.lateCounted number).heldBack k up down number x)
      else
        let t := closeAccumulator k (a.key.difference (s.keyUnder x.homeGroup e)) (s.lateCounted number)
        ∃ y ∈ t.context k, Becomes (exec (.usage c.val number [⟨k, up, down⟩]) s) (t.heldBack k up down number y))
    ∧ (ContextsInOrder s → ∀ x ∈ s.context k, x.state ≠ .attaching → x.held = none → ∀ a ∈ x.accumulator,
      let e := s.ratingEpoch number
      let key := s.keyUnder x.homeGroup e
      a.key ≠ key → s.epochAge a.lastEpoch ≤ s.epochAge e.number →
      exec (.usage c.val number [⟨k, up, down⟩]) s =
        exec (.usage c.val number [⟨k, up, down⟩]) (closeAccumulator k (a.key.difference key) s))
    ∧ (entries ≠ [] → entries.length < 64 →
      Next (exec (.usage c.val number [entry]) s) fun t =>
        exec (.usage c.val number (entry :: entries)) s = exec (.usage c.val number entries) t)

/-- QUOTA_GRANT is BAD_ARG for an index above 2,047, an unlisted mode or an amount above its limit, NOT_FOUND for a FREE
and STATE for a LEAVING context. ADD raises the balance, saturating, SET replaces it, and both set the last grant,
clear the low-notified flag and the overrun; UNLIMITED and LIMITED set and clear the flag; MARK sets the low mark.
QUOTA is then present exactly for a limited context with balance 0, the unit told by RESTRICT or LIFT, and the reply
reports the quota with the overrun before. QUOTA_ATTENTION_READ reports up to 64 of the oldest entries and removes
them. That BAD_ARG is answered before NOT_FOUND and STATE where several cases hold is log entry 45. (R163, R164) -/
def Obligations.QuotaRequests : Prop :=
  ∀ (s : State) (tag k amount mode : Nat),
    tag < 256 →
    k < 65536 →
    amount < 18446744073709551616 →
    mode < 256 →
    (Ready 0x40 s →
      2047 < k ∨ 4 < mode ∨ (mode ≤ 1 ∧ maxMoney < amount) ∨ (mode = 4 ∧ 1000 < amount) →
      Replies (exec (.quotaGrant tag k mode amount) s) tag 0x40 (be 2 k ++ be 1 mode ++ be 8 amount) .badArg [] s)
    ∧ (Ready 0x40 s →
      ¬(2047 < k ∨ 4 < mode ∨ (mode ≤ 1 ∧ maxMoney < amount) ∨ (mode = 4 ∧ 1000 < amount)) →
      match s.context k with
      | none => Replies (exec (.quotaGrant tag k mode amount) s) tag 0x40 (be 2 k ++ be 1 mode ++ be 8 amount) .notFound [] s
      | some x =>
        if x.state = .leaving then
          Replies (exec (.quotaGrant tag k mode amount) s) tag 0x40 (be 2 k ++ be 1 mode ++ be 8 amount) .state [] s
        else
          let balance := if mode = 0 then min maxMoney (x.quota.balance + amount) else if mode = 1 then amount else x.quota.balance
          let unlimited := if mode = 2 then true else if mode = 3 then false else x.quota.unlimited
          let lowMark := if mode = 4 then amount else x.quota.lowMark
          let lastGrant := if mode ≤ 1 then balance else x.quota.lastGrant
          Replies (exec (.quotaGrant tag k mode amount) s) tag 0x40 (be 2 k ++ be 1 mode ++ be 8 amount) .ok
            (be 5 balance ++ be 1 (if unlimited = true then 1 else 0) ++ be 2 lowMark ++ be 5 lastGrant ++ be 5 x.quota.overrun)
            (restrict k (fun r => { r with quota := !unlimited && balance == 0 })
              (setContext k
                { x with
                  quota :=
                    { balance := balance
                      unlimited := unlimited
                      lowMark := lowMark
                      lastGrant := lastGrant
                      lowNotified := if mode ≤ 1 then false else x.quota.lowNotified
                      overrun := if mode ≤ 1 then 0 else x.quota.overrun } } s)))
    ∧ (Ready 0x41 s →
      Replies (exec (.quotaAttentionRead tag) s) tag 0x41 [] .ok
        (be 1 (s.rte.attention.take 64).length ++ (s.rte.attention.take 64).flatMap s.attentionBytes)
        { s with rte := { s.rte with attention := s.rte.attention.drop 64 } })

/-- A sequence number of no queued ticket is NOT_FOUND. Otherwise that ticket and all before it leave the queue, the reply
gives the numbers removed and left, and the hold list is served while the gate has room: with none on it nothing else
changes, and otherwise it ends empty or the gate count is 2,048 or more. The list is served from its head, one context
after the other. Serving a context takes it off the list, rates its held usage as one entry with room found (into its
accumulator of that key, into a new one after another key is closed, or, for an older epoch, into a LATE ticket), adds
at most 1 to the gate count, and ends its held usage and BACKLOG, with LIFT where an ACTIVE context at a joined cell
is left unrestricted; a LEAVING context whose counts are complete is then closed with its leave reason into a last
ticket and freed, and one whose counts are not complete stays LEAVING. So, in a state that meets ContextLaw (O8) with
no context listed twice, every context taken off the list by the command is freed or without held usage, and every
other keeps its record. At its interval deadline an open accumulator is closed with reason INTERVAL; with an interval
of 0, or none open, nothing happens. That the number left is counted before the hold list is served is log entry 37.
The ship time raised to the interval deadline, and that no deadline does nothing, are the model's choice, log entry 3.
(R107, R165, R171, R174, R175) -/
def Obligations.TicketReleaseAndInterval : Prop :=
  ∀ (s : State) (tag sequence k : Nat),
    tag < 256 →
    sequence < 4294967296 →
    (Ready 0x51 s → s.tkq.tickets.all (fun u => u.seq != sequence) = true →
      Replies (exec (.ticketRelease tag sequence) s) tag 0x51 (be 4 sequence) .notFound [] s)
    ∧ (Ready 0x51 s → ∀ i ∈ s.tkq.tickets.findIdx? (fun u => u.seq == sequence),
      (s.tkq.holdList = [] →
        Replies (exec (.ticketRelease tag sequence) s) tag 0x51 (be 4 sequence) .ok
          (be 2 (i + 1) ++ be 2 (s.tkq.tickets.length - (i + 1)))
          { s with tkq := { s.tkq with tickets := s.tkq.tickets.drop (i + 1) } })
      ∧ Replies (exec (.ticketRelease tag sequence) s) tag 0x51 (be 4 sequence) .ok
          (be 2 (i + 1) ++ be 2 (s.tkq.tickets.length - (i + 1)))
          (serveHoldList { s with tkq := { s.tkq with tickets := s.tkq.tickets.drop (i + 1) } })
      ∧ Next (exec (.ticketRelease tag sequence) s) fun t =>
        Answered s t tag 0x51 (be 4 sequence) .ok (be 2 (i + 1) ++ be 2 (s.tkq.tickets.length - (i + 1)))
          ∧ s.tkq.tickets.drop (i + 1) <+: t.tkq.tickets
          ∧ (s.tkq.holdList.Nodup → t.tkq.holdList = [] ∨ 2048 ≤ t.gateCount)
          ∧ OnlyCharging
            { s with ctp := { s.ctp with inbound := t.ctp.inbound, outbound := t.ctp.outbound } } t
          ∧ (ContextLaw s → s.tkq.holdList.Nodup →
            t.tkq.holdList <:+ s.tkq.holdList
              ∧ (k ∉ s.tkq.holdList ∨ k ∈ t.tkq.holdList → t.context k = s.context k)
              ∧ (k ∈ s.tkq.holdList → k ∉ t.tkq.holdList → ∀ x ∈ s.context k,
                if x.leaving.any LeavingRecord.complete = true then t.context k = none
                else
                  ∃ y ∈ t.context k,
                    y.held = none ∧ y.restrictions.backlog = false ∧ y.state = x.state ∧ y.leaving = x.leaving)))
    ∧ ((s.tkq.holdList = [] ∨ 2048 ≤ s.gateCount → serveHoldList s = s)
      ∧ (s.tkq.holdList.head? = some k → s.gateCount < 2048 → serveHoldList s = serveHoldList (serveContext k s)))
    ∧ (ContextsInOrder s → ∀ x ∈ s.context k, ∀ h ∈ x.held,
      let t := serveContext k s
      let key := s.heldKey x h
      let made := (t.tkq.tickets.drop s.tkq.tickets.length).map (fun u => (u.key, u.reason))
      let mine := x.accumulator.filter (fun a => a.key == key)
      let up := min maxBytes (mine.elim 0 Accumulator.up + h.up)
      let down := min maxBytes (mine.elim 0 Accumulator.down + h.down)
      let older :=
        x.accumulator.any
          (fun a =>
            a.key != key
              && decide (s.epochAge ((s.heldEpoch h.epoch).getD s.oldestEpoch).number < s.epochAge a.lastEpoch))
      let rated :=
        match x.accumulator with
        | none => []
        | some a => if a.key = key then [] else if older = true then [(key, .late)] else [(a.key, a.key.difference key)]
      let last := if older = true then (x.accumulator.map Accumulator.key).getD key else key
      OnlyCharging s t ∧ t.tkq.holdList = s.tkq.holdList.filter (· != k)
        ∧ s.tkq.tickets <+: t.tkq.tickets ∧ t.gateCount ≤ s.gateCount + 1
        ∧ (∀ j : Nat, j ≠ k → t.context j = s.context j)
        ∧ (∀ r ∈ x.leaving, r.complete = true →
          t.context k = none ∧ (t.cell x.cell).attached = (s.cell x.cell).attached - 1
            ∧ t.rte.attention.all (fun e => e.1 != k) = true
            ∧ made = rated ++ [(last, r.reason.close)]
            ∧ (t.tkq.tickets.drop s.tkq.tickets.length).any
                (fun u => u.key == key && u.ctx == k && u.sid == x.sid && u.up == up && u.down == down)
              = true)
        ∧ (x.leaving.any LeavingRecord.complete = false →
          made = rated
            ∧ (if older = true then (t.context k).bind Context.accumulator = x.accumulator
              else
                ((t.context k).bind Context.accumulator).any (fun a => a.key == key && a.up == up && a.down == down) = true)
            ∧ ∃ y ∈ t.context k,
              y =
                  { x with
                    held := none
                    restrictions := { x.restrictions with backlog := false, quota := y.restrictions.quota }
                    feeZone := y.feeZone
                    quota := y.quota
                    accumulator := y.accumulator }
                ∧ (x.state = .active → (s.cell x.cell).state.joined = true → x.restrictions.backlog = true →
                  y.restrictions = ⟨false, false, false⟩ → t.ports.deck.getLast? = some (x.cell, .lift x.sid k))))
    ∧ (s.settings.interval ≠ 0 → ∀ a ∈ (s.context k).bind Context.accumulator,
      Becomes (exec (.intervalDeadline k) s)
        (closeAccumulator k .interval { s with shipTime := max s.shipTime (a.start + 60000 * s.settings.interval) }))
    ∧ (s.settings.interval = 0 ∨ (s.context k).bind Context.accumulator = none → Becomes (exec (.intervalDeadline k) s) s)

/-- RESTART is answered OK, clears the conditions and the pending notice, abandons an open load and is delivered to the
seven blocks; events delivered before and not yet taken stay (the model's choice, log entry 50). The EPC then holds
one epoch of reason RESTART with the next number and nothing pending, and only the newest generations; the RGE has an
empty queue and table and every registration NONE; the RTE and TKQ keep what they hold; the DUC sends REJOIN to every
cell that is not DISABLED and makes it ABSENT with its timers stopped and its record fresh but for serial, attached
and bad-frame count. The SBT frees every context in rising order, closing open accumulators with reason RESTART, and
the attached counts fall to 0; held usage is first rated, into its own accumulator or with room at the gate, and with
no room left it is written off: counted in the record, with TICKET_BACKLOG. JOINs held are taken in order of arrival,
each as a JOIN outside a restart is, once the EPC and the SBT are done (log entry 34). A block to which no restart was
delivered does nothing (log entry 2). A waiting request that fits its code waits on; one that does not is answered
with the last block (O13). (Contexts in rising order.) (R76, R118, R137, R150, R167, R180, R195) -/
def Obligations.Restarts : Prop :=
  ∀ (s : State) (tag : Nat) (c : CellId) (serial : Nat),
    tag < 256 →
    (Ready 0x6E s →
      Replies (exec (.restart tag) s) tag 0x6E [] .ok []
        { s with
          ctp := { s.ctp with conditions := 0#16, noticePending := false, load := none }
          mail := { s.mail with restart := [.epc, .cap, .duc, .sbt, .rge, .rte, .tkq] } })
    ∧ ((s.mail.restart.contains .rte = true → s.NoneMalformed .rte →
        Becomes (exec .rteRestart s) { s with mail := { s.mail with restart := s.mail.restart.erase .rte } })
      ∧ (s.mail.restart.contains .tkq = true → s.NoneMalformed .tkq →
        Becomes (exec .tkqRestart s) { s with mail := { s.mail with restart := s.mail.restart.erase .tkq } })
      ∧ (s.mail.restart.contains .rge = true → s.NoneMalformed .rge →
        Becomes (exec .rgeRestart s)
          { s with
            mail := { s.mail with restart := s.mail.restart.erase .rge }
            rge := { s.rge with queue := [], outstanding := [] }
            sbt := { s.sbt with contexts := s.sbt.contexts.map fun e => (e.1, { e.2 with registration := .none }) } })
      ∧ (s.mail.restart.contains .epc = true → s.NoneMalformed .epc →
        Becomes (exec .epcRestart s)
          (State.joinsTaken
            { s with
              mail := { s.mail with restart := s.mail.restart.erase .epc }
              epc :=
                { s.epc with
                  ring :=
                    [{ number := (s.newestEpoch.number + 1) % 256
                       reason := .restart
                       zone := s.pzu.current
                       linkClass := s.lkm.classHanded
                       tariffGen := s.newestTariff.number
                       partnerGen := s.newestPartner.number
                       opened := s.shipTime
                       pendingSet := []
                       cut := .none
                       cutTimer := none }] }
              rge := { s.rge with generations := s.rge.generations.filter (fun g => g.number == s.newestPartner.number) }
              rte := { s.rte with generations := s.rte.generations.filter (fun g => g.number == s.newestTariff.number) } })))
    ∧ ((s.mail.restart.contains .rte = false → Becomes (exec .rteRestart s) s)
      ∧ (s.mail.restart.contains .tkq = false → Becomes (exec .tkqRestart s) s)
      ∧ (s.mail.restart.contains .rge = false → Becomes (exec .rgeRestart s) s)
      ∧ (s.mail.restart.contains .epc = false → Becomes (exec .epcRestart s) s)
      ∧ (s.mail.restart.contains .duc = false → Becomes (exec .ducRestart s) s)
      ∧ (s.mail.restart.contains .sbt = false → Becomes (exec .sbtRestart s) s))
    ∧ (GrantLaw s → s.NoneMalformed .duc → s.mail.restart.contains .duc = true →
      Next (exec .ducRestart s) fun t =>
        t.duc.retuneList = [] ∧ t.duc.heldJoins = s.duc.heldJoins
          ∧ ((s.cell c).state = .disabled → t.cell c = s.cell c)
          ∧ ((s.cell c).state ≠ .disabled →
            t.cell c =
                { s.cell c with
                  state := .absent
                  phase := .a
                  good := false
                  missed := 0
                  power := .mains
                  demand := 0
                  grant := 0
                  beacon := none
                  heartbeatTimer := none
                  idleTimer := none
                  deepTimer := none
                  retuneTimer := none
                  silenceTimer := none
                  target := none }
              ∧ (c, .rejoin) ∈ s.sentSince t)
          ∧ t =
            { s with
              mail := { s.mail with restart := s.mail.restart.erase .duc }
              duc := { s.duc with cells := t.duc.cells, retuneList := [], lamp := t.duc.lamp }
              cap := { s.cap with pointer := t.cap.pointer, demandChanged := t.cap.demandChanged }
              ports := { s.ports with deck := t.ports.deck } })
    ∧ (s.mail.restart.contains .sbt = true → s.NoneMalformed .sbt →
      Becomes (exec .sbtRestart s) (sbtRestartEffect (s.restartTaken .sbt)).joinsTaken)
    ∧ (let u := sbtRestartEffect s
      u.sbt = { s.sbt with contexts := [] } ∧ OnlyCharging s u ∧ s.tkq.tickets <+: u.tkq.tickets
        ∧ (AttachedLaw s → ∀ d : CellId, (u.cell d).attached = 0)
        ∧ (HoldLaw s → u.tkq.holdList = [])
        ∧ (ContextsInOrder s → ∀ e ∈ s.sbt.contexts, e.2.held.isSome = true → e.1 ∉ u.tkq.holdList))
    ∧ (ContextsInOrder s →
      let u := sbtRestartEffect s
      let off := s.needRoom.drop (2048 - s.gateCount)
      if off = [] then u.tkq.writeOff = s.tkq.writeOff
      else
        u.condSet .ticketBacklog = true
          ∧ u.tkq.writeOff =
            ⟨min 65535 (s.tkq.writeOff.contexts + off.length),
              min maxBytes (s.tkq.writeOff.up + (off.map (fun e => (e.2.held.map Held.up).getD 0)).sum),
              min maxBytes (s.tkq.writeOff.down + (off.map (fun e => (e.2.held.map Held.down).getD 0)).sum)⟩)
    ∧ (ContextsInOrder s → ∀ e ∈ s.sbt.contexts,
      let u := sbtRestartEffect s
      let made := (u.tkq.tickets.drop s.tkq.tickets.length).filter (fun v => v.ctx == e.1 && v.sid == e.2.sid)
      let pairs := made.map (fun v => (v.key, v.reason))
      match e.2.held with
      | none => pairs = e.2.accumulator.toList.map (fun a => (a.key, .restart))
      | some h =>
        let epoch := (s.heldEpoch h.epoch).getD s.oldestEpoch
        let key := s.heldKey e.2 h
        if e ∈ s.needRoom.drop (2048 - s.gateCount) then pairs = e.2.accumulator.toList.map (fun a => (a.key, .restart))
        else
          made.any
              (fun v =>
                v.key == key
                  && v.up == min maxBytes ((e.2.accumulator.filter (fun a => a.key == key)).elim 0 Accumulator.up + h.up)
                  && v.down == min maxBytes ((e.2.accumulator.filter (fun a => a.key == key)).elim 0 Accumulator.down + h.down))
            = true
            ∧ match e.2.accumulator with
              | none => pairs = [(key, .restart)]
              | some a =>
                if a.key = key then pairs = [(key, .restart)]
                else if s.epochAge epoch.number < s.epochAge a.lastEpoch then pairs = [(key, .late), (a.key, .restart)]
                else pairs = [(a.key, a.key.difference key), (key, .restart)])
    ∧ (s.holdsJoins = false → serial < 4294967296 → Becomes (exec (.join c.val serial) s) (takeJoin c serial s))

/-- ZONE_QUERY, LINK_QUERY, CELL_QUERY, SUB_QUERY, SUB_FIND, TICKET_READ, STATUS_READ and IDENTIFY are answered with the
state or record asked for (the layout of each item is log entry 10; the order of the held generations, of the items of
SUB_QUERY and what the queue counts of the CTP section count are log entries 46, 47 and 48), or BAD_ARG or NOT_FOUND
as their rules say, and change nothing; only CELL_QUERY with clear yes, for a cell from 0 to 23, reports the bad-frame
count and then sets it to 0. (R16, R42, R55, R74, R117, R136, R166, R173, R178, R194) -/
def Obligations.Queries : Prop :=
  ∀ (s : State) (tag n : Nat) (l : LinkId) (c : CellId) (sid : Sid) (clear k : Nat),
    tag < 256 →
    n < 256 →
    clear < 256 →
    k < 65536 →
    sidValid sid = true →
    (Ready 0x04 s →
      Replies (exec (.zoneQuery tag none) s) tag 0x04 [] .ok s.zoneStatus s
        ∧ (match s.zoneRecord n with
          | none => Replies (exec (.zoneQuery tag (some n)) s) tag 0x04 (be 1 n) .notFound [] s
          | some z => Replies (exec (.zoneQuery tag (some n)) s) tag 0x04 (be 1 n) .ok z.bytes s))
    ∧ (Ready 0x13 s →
      Replies (exec (.linkQuery tag l.val) s) tag 0x13 (be 1 l.val) .ok (s.linkStatus l) s
        ∧ (5 < n → Replies (exec (.linkQuery tag n) s) tag 0x13 (be 1 n) .badArg [] s))
    ∧ (Ready 0x22 s →
      Replies (exec (.cellQuery tag 255 clear) s) tag 0x22 (be 1 255 ++ be 1 clear) .ok s.cellSummary s
        ∧ Replies (exec (.cellQuery tag c.val 0) s) tag 0x22 (be 1 c.val ++ be 1 0) .ok (s.cellStatus c) s
        ∧ Replies (exec (.cellQuery tag c.val 1) s) tag 0x22 (be 1 c.val ++ be 1 1) .ok (s.cellStatus c)
          (setCell c { s.cell c with badFrames := 0 } s)
        ∧ (1 < clear → Replies (exec (.cellQuery tag c.val clear) s) tag 0x22 (be 1 c.val ++ be 1 clear) .badArg [] s)
        ∧ (23 < n → n ≠ 255 → Replies (exec (.cellQuery tag n clear) s) tag 0x22 (be 1 n ++ be 1 clear) .badArg [] s))
    ∧ (Ready 0x30 s →
      (k = 65535 → Replies (exec (.subQuery tag k) s) tag 0x30 (be 2 k) .ok s.contextSummary s)
        ∧ (2047 < k → k ≠ 65535 → Replies (exec (.subQuery tag k) s) tag 0x30 (be 2 k) .badArg [] s)
        ∧ (k ≤ 2047 →
          match s.context k with
          | none => Replies (exec (.subQuery tag k) s) tag 0x30 (be 2 k) .ok [0#8] s
          | some x => Replies (exec (.subQuery tag k) s) tag 0x30 (be 2 k) .ok (s.contextBytes k x) s))
    ∧ (Ready 0x31 s →
      match s.holderOf sid with
      | none => Replies (exec (.subFind tag sid) s) tag 0x31 (be 8 sid.toNat) .notFound [] s
      | some e => Replies (exec (.subFind tag sid) s) tag 0x31 (be 8 sid.toNat) .ok (be 2 e.1 ++ be 1 e.2.state.number) s)
    ∧ (Ready 0x50 s →
      if 1 ≤ n ∧ n ≤ 16 then
        Replies (exec (.ticketRead tag n) s) tag 0x50 (be 1 n) .ok
          (be 2 s.tkq.tickets.length ++ be 1 (min n s.tkq.tickets.length) ++ (s.tkq.tickets.take n).flatMap Ticket.bytes) s
      else Replies (exec (.ticketRead tag n) s) tag 0x50 (be 1 n) .badArg [] s)
    ∧ (Ready 0x65 s →
      Replies (exec (.statusRead tag 0) s) tag 0x65 [0#8] .ok
          (State.ctpStatus { s with ctp := { s.ctp with inbound := s.ctp.inbound ++ [⟨tag, 0x65, [0#8], false⟩] } }) s
        ∧ Replies (exec (.statusRead tag 1) s) tag 0x65 [1#8] .ok
          (be 2 s.cap.carried ++ be 1 s.settings.reserve ++ be 2 s.cap.pool ++ be 2 s.grantSum ++ be 1 s.cap.pointer) s
        ∧ Replies (exec (.statusRead tag 2) s) tag 0x65 [2#8] .ok s.epcStatus s
        ∧ Replies (exec (.statusRead tag 3) s) tag 0x65 [3#8] .ok s.rgeStatus s
        ∧ Replies (exec (.statusRead tag 4) s) tag 0x65 [4#8] .ok s.rteStatus s
        ∧ Replies (exec (.statusRead tag 5) s) tag 0x65 [5#8] .ok s.tkqStatus s
        ∧ (5 < n → Replies (exec (.statusRead tag n) s) tag 0x65 (be 1 n) .badArg [] s))
    ∧ (Ready 0x6D s →
      Replies (exec (.identify tag) s) tag 0x6D [] .ok (be 2 640 ++ versionBytes ++ be 1 s.cfs.state.number) s)
end

