-- ==== Sys2Proof/Laws/State.lean ====
section
/-! SUPPORT. One lemma per field per update of the state, and what the record accessors read after an update. -/

namespace Sys2Proof.Machine

/-! ### setCell -/

@[simp] theorem setCell_shipTime (c : CellId) (x : Cell) (s : State) : (setCell c x s).shipTime = s.shipTime := rfl
@[simp] theorem setCell_settings (c : CellId) (x : Cell) (s : State) : (setCell c x s).settings = s.settings := rfl
@[simp] theorem setCell_ctp (c : CellId) (x : Cell) (s : State) : (setCell c x s).ctp = s.ctp := rfl
@[simp] theorem setCell_pzu (c : CellId) (x : Cell) (s : State) : (setCell c x s).pzu = s.pzu := rfl
@[simp] theorem setCell_epc (c : CellId) (x : Cell) (s : State) : (setCell c x s).epc = s.epc := rfl
@[simp] theorem setCell_lkm (c : CellId) (x : Cell) (s : State) : (setCell c x s).lkm = s.lkm := rfl
@[simp] theorem setCell_cap (c : CellId) (x : Cell) (s : State) : (setCell c x s).cap = s.cap := rfl
@[simp] theorem setCell_duc (c : CellId) (x : Cell) (s : State) :
    (setCell c x s).duc = { s.duc with cells := s.duc.cells.set c.val x c.isLt } :=
  rfl
@[simp] theorem setCell_sbt (c : CellId) (x : Cell) (s : State) : (setCell c x s).sbt = s.sbt := rfl
@[simp] theorem setCell_rge (c : CellId) (x : Cell) (s : State) : (setCell c x s).rge = s.rge := rfl
@[simp] theorem setCell_rte (c : CellId) (x : Cell) (s : State) : (setCell c x s).rte = s.rte := rfl
@[simp] theorem setCell_tkq (c : CellId) (x : Cell) (s : State) : (setCell c x s).tkq = s.tkq := rfl
@[simp] theorem setCell_cfs (c : CellId) (x : Cell) (s : State) : (setCell c x s).cfs = s.cfs := rfl
@[simp] theorem setCell_ports (c : CellId) (x : Cell) (s : State) : (setCell c x s).ports = s.ports := rfl
@[simp] theorem setCell_mail (c : CellId) (x : Cell) (s : State) : (setCell c x s).mail = s.mail := rfl
@[simp] theorem setCell_pending (c : CellId) (x : Cell) (s : State) : (setCell c x s).pending = s.pending := rfl

/-! ### setLink -/

@[simp] theorem setLink_shipTime (l : LinkId) (x : Link) (s : State) : (setLink l x s).shipTime = s.shipTime := rfl
@[simp] theorem setLink_settings (l : LinkId) (x : Link) (s : State) : (setLink l x s).settings = s.settings := rfl
@[simp] theorem setLink_ctp (l : LinkId) (x : Link) (s : State) : (setLink l x s).ctp = s.ctp := rfl
@[simp] theorem setLink_pzu (l : LinkId) (x : Link) (s : State) : (setLink l x s).pzu = s.pzu := rfl
@[simp] theorem setLink_epc (l : LinkId) (x : Link) (s : State) : (setLink l x s).epc = s.epc := rfl
@[simp] theorem setLink_lkm (l : LinkId) (x : Link) (s : State) :
    (setLink l x s).lkm = { s.lkm with links := s.lkm.links.set l.val x l.isLt } :=
  rfl
@[simp] theorem setLink_cap (l : LinkId) (x : Link) (s : State) : (setLink l x s).cap = s.cap := rfl
@[simp] theorem setLink_duc (l : LinkId) (x : Link) (s : State) : (setLink l x s).duc = s.duc := rfl
@[simp] theorem setLink_sbt (l : LinkId) (x : Link) (s : State) : (setLink l x s).sbt = s.sbt := rfl
@[simp] theorem setLink_rge (l : LinkId) (x : Link) (s : State) : (setLink l x s).rge = s.rge := rfl
@[simp] theorem setLink_rte (l : LinkId) (x : Link) (s : State) : (setLink l x s).rte = s.rte := rfl
@[simp] theorem setLink_tkq (l : LinkId) (x : Link) (s : State) : (setLink l x s).tkq = s.tkq := rfl
@[simp] theorem setLink_cfs (l : LinkId) (x : Link) (s : State) : (setLink l x s).cfs = s.cfs := rfl
@[simp] theorem setLink_ports (l : LinkId) (x : Link) (s : State) : (setLink l x s).ports = s.ports := rfl
@[simp] theorem setLink_mail (l : LinkId) (x : Link) (s : State) : (setLink l x s).mail = s.mail := rfl
@[simp] theorem setLink_pending (l : LinkId) (x : Link) (s : State) : (setLink l x s).pending = s.pending := rfl

/-! ### setContext -/

@[simp] theorem setContext_shipTime (k : Nat) (x : Context) (s : State) : (setContext k x s).shipTime = s.shipTime := rfl
@[simp] theorem setContext_settings (k : Nat) (x : Context) (s : State) : (setContext k x s).settings = s.settings := rfl
@[simp] theorem setContext_ctp (k : Nat) (x : Context) (s : State) : (setContext k x s).ctp = s.ctp := rfl
@[simp] theorem setContext_pzu (k : Nat) (x : Context) (s : State) : (setContext k x s).pzu = s.pzu := rfl
@[simp] theorem setContext_epc (k : Nat) (x : Context) (s : State) : (setContext k x s).epc = s.epc := rfl
@[simp] theorem setContext_lkm (k : Nat) (x : Context) (s : State) : (setContext k x s).lkm = s.lkm := rfl
@[simp] theorem setContext_cap (k : Nat) (x : Context) (s : State) : (setContext k x s).cap = s.cap := rfl
@[simp] theorem setContext_duc (k : Nat) (x : Context) (s : State) : (setContext k x s).duc = s.duc := rfl
@[simp] theorem setContext_sbt (k : Nat) (x : Context) (s : State) :
    (setContext k x s).sbt = { s.sbt with contexts := Assoc.put s.sbt.contexts k x } :=
  rfl
@[simp] theorem setContext_rge (k : Nat) (x : Context) (s : State) : (setContext k x s).rge = s.rge := rfl
@[simp] theorem setContext_rte (k : Nat) (x : Context) (s : State) : (setContext k x s).rte = s.rte := rfl
@[simp] theorem setContext_tkq (k : Nat) (x : Context) (s : State) : (setContext k x s).tkq = s.tkq := rfl
@[simp] theorem setContext_cfs (k : Nat) (x : Context) (s : State) : (setContext k x s).cfs = s.cfs := rfl
@[simp] theorem setContext_ports (k : Nat) (x : Context) (s : State) : (setContext k x s).ports = s.ports := rfl
@[simp] theorem setContext_mail (k : Nat) (x : Context) (s : State) : (setContext k x s).mail = s.mail := rfl
@[simp] theorem setContext_pending (k : Nat) (x : Context) (s : State) : (setContext k x s).pending = s.pending := rfl

/-! ### emitDeck -/

@[simp] theorem emitDeck_shipTime (c : CellId) (f : DeckFrame) (s : State) : (emitDeck c f s).shipTime = s.shipTime := rfl
@[simp] theorem emitDeck_settings (c : CellId) (f : DeckFrame) (s : State) : (emitDeck c f s).settings = s.settings := rfl
@[simp] theorem emitDeck_ctp (c : CellId) (f : DeckFrame) (s : State) : (emitDeck c f s).ctp = s.ctp := rfl
@[simp] theorem emitDeck_pzu (c : CellId) (f : DeckFrame) (s : State) : (emitDeck c f s).pzu = s.pzu := rfl
@[simp] theorem emitDeck_epc (c : CellId) (f : DeckFrame) (s : State) : (emitDeck c f s).epc = s.epc := rfl
@[simp] theorem emitDeck_lkm (c : CellId) (f : DeckFrame) (s : State) : (emitDeck c f s).lkm = s.lkm := rfl
@[simp] theorem emitDeck_cap (c : CellId) (f : DeckFrame) (s : State) : (emitDeck c f s).cap = s.cap := rfl
@[simp] theorem emitDeck_duc (c : CellId) (f : DeckFrame) (s : State) : (emitDeck c f s).duc = s.duc := rfl
@[simp] theorem emitDeck_sbt (c : CellId) (f : DeckFrame) (s : State) : (emitDeck c f s).sbt = s.sbt := rfl
@[simp] theorem emitDeck_rge (c : CellId) (f : DeckFrame) (s : State) : (emitDeck c f s).rge = s.rge := rfl
@[simp] theorem emitDeck_rte (c : CellId) (f : DeckFrame) (s : State) : (emitDeck c f s).rte = s.rte := rfl
@[simp] theorem emitDeck_tkq (c : CellId) (f : DeckFrame) (s : State) : (emitDeck c f s).tkq = s.tkq := rfl
@[simp] theorem emitDeck_cfs (c : CellId) (f : DeckFrame) (s : State) : (emitDeck c f s).cfs = s.cfs := rfl
@[simp] theorem emitDeck_ports (c : CellId) (f : DeckFrame) (s : State) :
    (emitDeck c f s).ports = { s.ports with deck := s.ports.deck ++ [(c, f)] } :=
  rfl
@[simp] theorem emitDeck_mail (c : CellId) (f : DeckFrame) (s : State) : (emitDeck c f s).mail = s.mail := rfl
@[simp] theorem emitDeck_pending (c : CellId) (f : DeckFrame) (s : State) : (emitDeck c f s).pending = s.pending := rfl

/-! ### sendTerminal -/

@[simp] theorem sendTerminal_shipTime (l : LinkId) (f : TermFrame) (s : State) :
    (sendTerminal l f s).shipTime = s.shipTime :=
  rfl
@[simp] theorem sendTerminal_settings (l : LinkId) (f : TermFrame) (s : State) :
    (sendTerminal l f s).settings = s.settings :=
  rfl
@[simp] theorem sendTerminal_ctp (l : LinkId) (f : TermFrame) (s : State) : (sendTerminal l f s).ctp = s.ctp := rfl
@[simp] theorem sendTerminal_pzu (l : LinkId) (f : TermFrame) (s : State) : (sendTerminal l f s).pzu = s.pzu := rfl
@[simp] theorem sendTerminal_epc (l : LinkId) (f : TermFrame) (s : State) : (sendTerminal l f s).epc = s.epc := rfl
@[simp] theorem sendTerminal_lkm (l : LinkId) (f : TermFrame) (s : State) : (sendTerminal l f s).lkm = s.lkm := rfl
@[simp] theorem sendTerminal_cap (l : LinkId) (f : TermFrame) (s : State) : (sendTerminal l f s).cap = s.cap := rfl
@[simp] theorem sendTerminal_duc (l : LinkId) (f : TermFrame) (s : State) : (sendTerminal l f s).duc = s.duc := rfl
@[simp] theorem sendTerminal_sbt (l : LinkId) (f : TermFrame) (s : State) : (sendTerminal l f s).sbt = s.sbt := rfl
@[simp] theorem sendTerminal_rge (l : LinkId) (f : TermFrame) (s : State) : (sendTerminal l f s).rge = s.rge := rfl
@[simp] theorem sendTerminal_rte (l : LinkId) (f : TermFrame) (s : State) : (sendTerminal l f s).rte = s.rte := rfl
@[simp] theorem sendTerminal_tkq (l : LinkId) (f : TermFrame) (s : State) : (sendTerminal l f s).tkq = s.tkq := rfl
@[simp] theorem sendTerminal_cfs (l : LinkId) (f : TermFrame) (s : State) : (sendTerminal l f s).cfs = s.cfs := rfl
@[simp] theorem sendTerminal_ports (l : LinkId) (f : TermFrame) (s : State) :
    (sendTerminal l f s).ports = { s.ports with terminal := s.ports.terminal ++ [(l, f)] } :=
  rfl
@[simp] theorem sendTerminal_mail (l : LinkId) (f : TermFrame) (s : State) : (sendTerminal l f s).mail = s.mail := rfl
@[simp] theorem sendTerminal_pending (l : LinkId) (f : TermFrame) (s : State) :
    (sendTerminal l f s).pending = s.pending :=
  rfl

/-! ### mailEpoch -/

@[simp] theorem mailEpoch_shipTime (r : OpenReason) (s : State) : (mailEpoch r s).shipTime = s.shipTime := rfl
@[simp] theorem mailEpoch_settings (r : OpenReason) (s : State) : (mailEpoch r s).settings = s.settings := rfl
@[simp] theorem mailEpoch_ctp (r : OpenReason) (s : State) : (mailEpoch r s).ctp = s.ctp := rfl
@[simp] theorem mailEpoch_pzu (r : OpenReason) (s : State) : (mailEpoch r s).pzu = s.pzu := rfl
@[simp] theorem mailEpoch_epc (r : OpenReason) (s : State) : (mailEpoch r s).epc = s.epc := rfl
@[simp] theorem mailEpoch_lkm (r : OpenReason) (s : State) : (mailEpoch r s).lkm = s.lkm := rfl
@[simp] theorem mailEpoch_cap (r : OpenReason) (s : State) : (mailEpoch r s).cap = s.cap := rfl
@[simp] theorem mailEpoch_duc (r : OpenReason) (s : State) : (mailEpoch r s).duc = s.duc := rfl
@[simp] theorem mailEpoch_sbt (r : OpenReason) (s : State) : (mailEpoch r s).sbt = s.sbt := rfl
@[simp] theorem mailEpoch_rge (r : OpenReason) (s : State) : (mailEpoch r s).rge = s.rge := rfl
@[simp] theorem mailEpoch_rte (r : OpenReason) (s : State) : (mailEpoch r s).rte = s.rte := rfl
@[simp] theorem mailEpoch_tkq (r : OpenReason) (s : State) : (mailEpoch r s).tkq = s.tkq := rfl
@[simp] theorem mailEpoch_cfs (r : OpenReason) (s : State) : (mailEpoch r s).cfs = s.cfs := rfl
@[simp] theorem mailEpoch_ports (r : OpenReason) (s : State) : (mailEpoch r s).ports = s.ports := rfl
@[simp] theorem mailEpoch_mail (r : OpenReason) (s : State) :
    (mailEpoch r s).mail = { s.mail with epc := s.mail.epc ++ [r] } :=
  rfl
@[simp] theorem mailEpoch_pending (r : OpenReason) (s : State) : (mailEpoch r s).pending = s.pending := rfl

/-! ### mailCapacity -/

@[simp] theorem mailCapacity_shipTime (n : Nat) (s : State) : (mailCapacity n s).shipTime = s.shipTime := rfl
@[simp] theorem mailCapacity_settings (n : Nat) (s : State) : (mailCapacity n s).settings = s.settings := rfl
@[simp] theorem mailCapacity_ctp (n : Nat) (s : State) : (mailCapacity n s).ctp = s.ctp := rfl
@[simp] theorem mailCapacity_pzu (n : Nat) (s : State) : (mailCapacity n s).pzu = s.pzu := rfl
@[simp] theorem mailCapacity_epc (n : Nat) (s : State) : (mailCapacity n s).epc = s.epc := rfl
@[simp] theorem mailCapacity_lkm (n : Nat) (s : State) : (mailCapacity n s).lkm = s.lkm := rfl
@[simp] theorem mailCapacity_cap (n : Nat) (s : State) : (mailCapacity n s).cap = s.cap := rfl
@[simp] theorem mailCapacity_duc (n : Nat) (s : State) : (mailCapacity n s).duc = s.duc := rfl
@[simp] theorem mailCapacity_sbt (n : Nat) (s : State) : (mailCapacity n s).sbt = s.sbt := rfl
@[simp] theorem mailCapacity_rge (n : Nat) (s : State) : (mailCapacity n s).rge = s.rge := rfl
@[simp] theorem mailCapacity_rte (n : Nat) (s : State) : (mailCapacity n s).rte = s.rte := rfl
@[simp] theorem mailCapacity_tkq (n : Nat) (s : State) : (mailCapacity n s).tkq = s.tkq := rfl
@[simp] theorem mailCapacity_cfs (n : Nat) (s : State) : (mailCapacity n s).cfs = s.cfs := rfl
@[simp] theorem mailCapacity_ports (n : Nat) (s : State) : (mailCapacity n s).ports = s.ports := rfl
@[simp] theorem mailCapacity_mail (n : Nat) (s : State) :
    (mailCapacity n s).mail = { s.mail with cap := s.mail.cap ++ [n] } :=
  rfl
@[simp] theorem mailCapacity_pending (n : Nat) (s : State) : (mailCapacity n s).pending = s.pending := rfl

/-! ### reachDeadline -/

@[simp] theorem reachDeadline_shipTime (d : Nat) (s : State) : (reachDeadline d s).shipTime = max s.shipTime d := rfl
@[simp] theorem reachDeadline_settings (d : Nat) (s : State) : (reachDeadline d s).settings = s.settings := rfl
@[simp] theorem reachDeadline_ctp (d : Nat) (s : State) : (reachDeadline d s).ctp = s.ctp := rfl
@[simp] theorem reachDeadline_pzu (d : Nat) (s : State) : (reachDeadline d s).pzu = s.pzu := rfl
@[simp] theorem reachDeadline_epc (d : Nat) (s : State) : (reachDeadline d s).epc = s.epc := rfl
@[simp] theorem reachDeadline_lkm (d : Nat) (s : State) : (reachDeadline d s).lkm = s.lkm := rfl
@[simp] theorem reachDeadline_cap (d : Nat) (s : State) : (reachDeadline d s).cap = s.cap := rfl
@[simp] theorem reachDeadline_duc (d : Nat) (s : State) : (reachDeadline d s).duc = s.duc := rfl
@[simp] theorem reachDeadline_sbt (d : Nat) (s : State) : (reachDeadline d s).sbt = s.sbt := rfl
@[simp] theorem reachDeadline_rge (d : Nat) (s : State) : (reachDeadline d s).rge = s.rge := rfl
@[simp] theorem reachDeadline_rte (d : Nat) (s : State) : (reachDeadline d s).rte = s.rte := rfl
@[simp] theorem reachDeadline_tkq (d : Nat) (s : State) : (reachDeadline d s).tkq = s.tkq := rfl
@[simp] theorem reachDeadline_cfs (d : Nat) (s : State) : (reachDeadline d s).cfs = s.cfs := rfl
@[simp] theorem reachDeadline_ports (d : Nat) (s : State) : (reachDeadline d s).ports = s.ports := rfl
@[simp] theorem reachDeadline_mail (d : Nat) (s : State) : (reachDeadline d s).mail = s.mail := rfl
@[simp] theorem reachDeadline_pending (d : Nat) (s : State) : (reachDeadline d s).pending = s.pending := rfl

/-! ### setCond -/

@[simp] theorem setCond_shipTime (c : Condition) (s : State) : (setCond c s).shipTime = s.shipTime := rfl
@[simp] theorem setCond_settings (c : Condition) (s : State) : (setCond c s).settings = s.settings := rfl
@[simp] theorem setCond_pzu (c : Condition) (s : State) : (setCond c s).pzu = s.pzu := rfl
@[simp] theorem setCond_epc (c : Condition) (s : State) : (setCond c s).epc = s.epc := rfl
@[simp] theorem setCond_lkm (c : Condition) (s : State) : (setCond c s).lkm = s.lkm := rfl
@[simp] theorem setCond_cap (c : Condition) (s : State) : (setCond c s).cap = s.cap := rfl
@[simp] theorem setCond_duc (c : Condition) (s : State) : (setCond c s).duc = s.duc := rfl
@[simp] theorem setCond_sbt (c : Condition) (s : State) : (setCond c s).sbt = s.sbt := rfl
@[simp] theorem setCond_rge (c : Condition) (s : State) : (setCond c s).rge = s.rge := rfl
@[simp] theorem setCond_rte (c : Condition) (s : State) : (setCond c s).rte = s.rte := rfl
@[simp] theorem setCond_tkq (c : Condition) (s : State) : (setCond c s).tkq = s.tkq := rfl
@[simp] theorem setCond_cfs (c : Condition) (s : State) : (setCond c s).cfs = s.cfs := rfl
@[simp] theorem setCond_ports (c : Condition) (s : State) : (setCond c s).ports = s.ports := rfl
@[simp] theorem setCond_mail (c : Condition) (s : State) : (setCond c s).mail = s.mail := rfl
@[simp] theorem setCond_pending (c : Condition) (s : State) : (setCond c s).pending = s.pending := rfl

/-! ### clearConds -/

@[simp] theorem clearConds_shipTime (m : CondSet) (s : State) : (clearConds m s).shipTime = s.shipTime := rfl
@[simp] theorem clearConds_settings (m : CondSet) (s : State) : (clearConds m s).settings = s.settings := rfl
@[simp] theorem clearConds_ctp (m : CondSet) (s : State) :
    (clearConds m s).ctp = { s.ctp with conditions := s.ctp.conditions &&& ~~~m } :=
  rfl
@[simp] theorem clearConds_pzu (m : CondSet) (s : State) : (clearConds m s).pzu = s.pzu := rfl
@[simp] theorem clearConds_epc (m : CondSet) (s : State) : (clearConds m s).epc = s.epc := rfl
@[simp] theorem clearConds_lkm (m : CondSet) (s : State) : (clearConds m s).lkm = s.lkm := rfl
@[simp] theorem clearConds_cap (m : CondSet) (s : State) : (clearConds m s).cap = s.cap := rfl
@[simp] theorem clearConds_duc (m : CondSet) (s : State) : (clearConds m s).duc = s.duc := rfl
@[simp] theorem clearConds_sbt (m : CondSet) (s : State) : (clearConds m s).sbt = s.sbt := rfl
@[simp] theorem clearConds_rge (m : CondSet) (s : State) : (clearConds m s).rge = s.rge := rfl
@[simp] theorem clearConds_rte (m : CondSet) (s : State) : (clearConds m s).rte = s.rte := rfl
@[simp] theorem clearConds_tkq (m : CondSet) (s : State) : (clearConds m s).tkq = s.tkq := rfl
@[simp] theorem clearConds_cfs (m : CondSet) (s : State) : (clearConds m s).cfs = s.cfs := rfl
@[simp] theorem clearConds_ports (m : CondSet) (s : State) : (clearConds m s).ports = s.ports := rfl
@[simp] theorem clearConds_mail (m : CondSet) (s : State) : (clearConds m s).mail = s.mail := rfl
@[simp] theorem clearConds_pending (m : CondSet) (s : State) : (clearConds m s).pending = s.pending := rfl

/-! ### setReceiver -/

@[simp] theorem setReceiver_shipTime (r : Receiver) (s : State) : (setReceiver r s).shipTime = s.shipTime := rfl
@[simp] theorem setReceiver_settings (r : Receiver) (s : State) : (setReceiver r s).settings = s.settings := rfl
@[simp] theorem setReceiver_ctp (r : Receiver) (s : State) : (setReceiver r s).ctp = { s.ctp with receiver := r } := rfl
@[simp] theorem setReceiver_pzu (r : Receiver) (s : State) : (setReceiver r s).pzu = s.pzu := rfl
@[simp] theorem setReceiver_epc (r : Receiver) (s : State) : (setReceiver r s).epc = s.epc := rfl
@[simp] theorem setReceiver_lkm (r : Receiver) (s : State) : (setReceiver r s).lkm = s.lkm := rfl
@[simp] theorem setReceiver_cap (r : Receiver) (s : State) : (setReceiver r s).cap = s.cap := rfl
@[simp] theorem setReceiver_duc (r : Receiver) (s : State) : (setReceiver r s).duc = s.duc := rfl
@[simp] theorem setReceiver_sbt (r : Receiver) (s : State) : (setReceiver r s).sbt = s.sbt := rfl
@[simp] theorem setReceiver_rge (r : Receiver) (s : State) : (setReceiver r s).rge = s.rge := rfl
@[simp] theorem setReceiver_rte (r : Receiver) (s : State) : (setReceiver r s).rte = s.rte := rfl
@[simp] theorem setReceiver_tkq (r : Receiver) (s : State) : (setReceiver r s).tkq = s.tkq := rfl
@[simp] theorem setReceiver_cfs (r : Receiver) (s : State) : (setReceiver r s).cfs = s.cfs := rfl
@[simp] theorem setReceiver_ports (r : Receiver) (s : State) : (setReceiver r s).ports = s.ports := rfl
@[simp] theorem setReceiver_mail (r : Receiver) (s : State) : (setReceiver r s).mail = s.mail := rfl
@[simp] theorem setReceiver_pending (r : Receiver) (s : State) : (setReceiver r s).pending = s.pending := rfl

/-! ### appendOut -/

@[simp] theorem appendOut_shipTime (f : OutFrame) (s : State) : (appendOut f s).shipTime = s.shipTime := rfl
@[simp] theorem appendOut_settings (f : OutFrame) (s : State) : (appendOut f s).settings = s.settings := rfl
@[simp] theorem appendOut_ctp (f : OutFrame) (s : State) :
    (appendOut f s).ctp = { s.ctp with outbound := s.ctp.outbound ++ [f] } :=
  rfl
@[simp] theorem appendOut_pzu (f : OutFrame) (s : State) : (appendOut f s).pzu = s.pzu := rfl
@[simp] theorem appendOut_epc (f : OutFrame) (s : State) : (appendOut f s).epc = s.epc := rfl
@[simp] theorem appendOut_lkm (f : OutFrame) (s : State) : (appendOut f s).lkm = s.lkm := rfl
@[simp] theorem appendOut_cap (f : OutFrame) (s : State) : (appendOut f s).cap = s.cap := rfl
@[simp] theorem appendOut_duc (f : OutFrame) (s : State) : (appendOut f s).duc = s.duc := rfl
@[simp] theorem appendOut_sbt (f : OutFrame) (s : State) : (appendOut f s).sbt = s.sbt := rfl
@[simp] theorem appendOut_rge (f : OutFrame) (s : State) : (appendOut f s).rge = s.rge := rfl
@[simp] theorem appendOut_rte (f : OutFrame) (s : State) : (appendOut f s).rte = s.rte := rfl
@[simp] theorem appendOut_tkq (f : OutFrame) (s : State) : (appendOut f s).tkq = s.tkq := rfl
@[simp] theorem appendOut_cfs (f : OutFrame) (s : State) : (appendOut f s).cfs = s.cfs := rfl
@[simp] theorem appendOut_ports (f : OutFrame) (s : State) : (appendOut f s).ports = s.ports := rfl
@[simp] theorem appendOut_mail (f : OutFrame) (s : State) : (appendOut f s).mail = s.mail := rfl
@[simp] theorem appendOut_pending (f : OutFrame) (s : State) : (appendOut f s).pending = s.pending := rfl

/-! ### emitBytes -/

@[simp] theorem emitBytes_shipTime (b : List Byte) (s : State) : (emitBytes b s).shipTime = s.shipTime := rfl
@[simp] theorem emitBytes_settings (b : List Byte) (s : State) : (emitBytes b s).settings = s.settings := rfl
@[simp] theorem emitBytes_ctp (b : List Byte) (s : State) : (emitBytes b s).ctp = s.ctp := rfl
@[simp] theorem emitBytes_pzu (b : List Byte) (s : State) : (emitBytes b s).pzu = s.pzu := rfl
@[simp] theorem emitBytes_epc (b : List Byte) (s : State) : (emitBytes b s).epc = s.epc := rfl
@[simp] theorem emitBytes_lkm (b : List Byte) (s : State) : (emitBytes b s).lkm = s.lkm := rfl
@[simp] theorem emitBytes_cap (b : List Byte) (s : State) : (emitBytes b s).cap = s.cap := rfl
@[simp] theorem emitBytes_duc (b : List Byte) (s : State) : (emitBytes b s).duc = s.duc := rfl
@[simp] theorem emitBytes_sbt (b : List Byte) (s : State) : (emitBytes b s).sbt = s.sbt := rfl
@[simp] theorem emitBytes_rge (b : List Byte) (s : State) : (emitBytes b s).rge = s.rge := rfl
@[simp] theorem emitBytes_rte (b : List Byte) (s : State) : (emitBytes b s).rte = s.rte := rfl
@[simp] theorem emitBytes_tkq (b : List Byte) (s : State) : (emitBytes b s).tkq = s.tkq := rfl
@[simp] theorem emitBytes_cfs (b : List Byte) (s : State) : (emitBytes b s).cfs = s.cfs := rfl
@[simp] theorem emitBytes_ports (b : List Byte) (s : State) :
    (emitBytes b s).ports = { s.ports with control := s.ports.control ++ b } :=
  rfl
@[simp] theorem emitBytes_mail (b : List Byte) (s : State) : (emitBytes b s).mail = s.mail := rfl
@[simp] theorem emitBytes_pending (b : List Byte) (s : State) : (emitBytes b s).pending = s.pending := rfl

/-! ### setRing -/

@[simp] theorem setRing_shipTime (r : List Epoch) (s : State) : (setRing r s).shipTime = s.shipTime := rfl
@[simp] theorem setRing_settings (r : List Epoch) (s : State) : (setRing r s).settings = s.settings := rfl
@[simp] theorem setRing_ctp (r : List Epoch) (s : State) : (setRing r s).ctp = s.ctp := rfl
@[simp] theorem setRing_pzu (r : List Epoch) (s : State) : (setRing r s).pzu = s.pzu := rfl
@[simp] theorem setRing_epc (r : List Epoch) (s : State) : (setRing r s).epc = { s.epc with ring := r } := rfl
@[simp] theorem setRing_lkm (r : List Epoch) (s : State) : (setRing r s).lkm = s.lkm := rfl
@[simp] theorem setRing_cap (r : List Epoch) (s : State) : (setRing r s).cap = s.cap := rfl
@[simp] theorem setRing_duc (r : List Epoch) (s : State) : (setRing r s).duc = s.duc := rfl
@[simp] theorem setRing_sbt (r : List Epoch) (s : State) : (setRing r s).sbt = s.sbt := rfl
@[simp] theorem setRing_rge (r : List Epoch) (s : State) : (setRing r s).rge = s.rge := rfl
@[simp] theorem setRing_rte (r : List Epoch) (s : State) : (setRing r s).rte = s.rte := rfl
@[simp] theorem setRing_tkq (r : List Epoch) (s : State) : (setRing r s).tkq = s.tkq := rfl
@[simp] theorem setRing_cfs (r : List Epoch) (s : State) : (setRing r s).cfs = s.cfs := rfl
@[simp] theorem setRing_ports (r : List Epoch) (s : State) : (setRing r s).ports = s.ports := rfl
@[simp] theorem setRing_mail (r : List Epoch) (s : State) : (setRing r s).mail = s.mail := rfl
@[simp] theorem setRing_pending (r : List Epoch) (s : State) : (setRing r s).pending = s.pending := rfl

/-! ### setRetuneList -/

@[simp] theorem setRetuneList_shipTime (r : List CellId) (s : State) : (setRetuneList r s).shipTime = s.shipTime := rfl
@[simp] theorem setRetuneList_settings (r : List CellId) (s : State) : (setRetuneList r s).settings = s.settings := rfl
@[simp] theorem setRetuneList_ctp (r : List CellId) (s : State) : (setRetuneList r s).ctp = s.ctp := rfl
@[simp] theorem setRetuneList_pzu (r : List CellId) (s : State) : (setRetuneList r s).pzu = s.pzu := rfl
@[simp] theorem setRetuneList_epc (r : List CellId) (s : State) : (setRetuneList r s).epc = s.epc := rfl
@[simp] theorem setRetuneList_lkm (r : List CellId) (s : State) : (setRetuneList r s).lkm = s.lkm := rfl
@[simp] theorem setRetuneList_cap (r : List CellId) (s : State) : (setRetuneList r s).cap = s.cap := rfl
@[simp] theorem setRetuneList_duc (r : List CellId) (s : State) :
    (setRetuneList r s).duc = { s.duc with retuneList := r } :=
  rfl
@[simp] theorem setRetuneList_sbt (r : List CellId) (s : State) : (setRetuneList r s).sbt = s.sbt := rfl
@[simp] theorem setRetuneList_rge (r : List CellId) (s : State) : (setRetuneList r s).rge = s.rge := rfl
@[simp] theorem setRetuneList_rte (r : List CellId) (s : State) : (setRetuneList r s).rte = s.rte := rfl
@[simp] theorem setRetuneList_tkq (r : List CellId) (s : State) : (setRetuneList r s).tkq = s.tkq := rfl
@[simp] theorem setRetuneList_cfs (r : List CellId) (s : State) : (setRetuneList r s).cfs = s.cfs := rfl
@[simp] theorem setRetuneList_ports (r : List CellId) (s : State) : (setRetuneList r s).ports = s.ports := rfl
@[simp] theorem setRetuneList_mail (r : List CellId) (s : State) : (setRetuneList r s).mail = s.mail := rfl
@[simp] theorem setRetuneList_pending (r : List CellId) (s : State) : (setRetuneList r s).pending = s.pending := rfl

/-! ### setLoad -/

@[simp] theorem setLoad_shipTime (l : Option Load) (s : State) : (setLoad l s).shipTime = s.shipTime := rfl
@[simp] theorem setLoad_settings (l : Option Load) (s : State) : (setLoad l s).settings = s.settings := rfl
@[simp] theorem setLoad_ctp (l : Option Load) (s : State) : (setLoad l s).ctp = { s.ctp with load := l } := rfl
@[simp] theorem setLoad_pzu (l : Option Load) (s : State) : (setLoad l s).pzu = s.pzu := rfl
@[simp] theorem setLoad_epc (l : Option Load) (s : State) : (setLoad l s).epc = s.epc := rfl
@[simp] theorem setLoad_lkm (l : Option Load) (s : State) : (setLoad l s).lkm = s.lkm := rfl
@[simp] theorem setLoad_cap (l : Option Load) (s : State) : (setLoad l s).cap = s.cap := rfl
@[simp] theorem setLoad_duc (l : Option Load) (s : State) : (setLoad l s).duc = s.duc := rfl
@[simp] theorem setLoad_sbt (l : Option Load) (s : State) : (setLoad l s).sbt = s.sbt := rfl
@[simp] theorem setLoad_rge (l : Option Load) (s : State) : (setLoad l s).rge = s.rge := rfl
@[simp] theorem setLoad_rte (l : Option Load) (s : State) : (setLoad l s).rte = s.rte := rfl
@[simp] theorem setLoad_tkq (l : Option Load) (s : State) : (setLoad l s).tkq = s.tkq := rfl
@[simp] theorem setLoad_cfs (l : Option Load) (s : State) : (setLoad l s).cfs = s.cfs := rfl
@[simp] theorem setLoad_ports (l : Option Load) (s : State) : (setLoad l s).ports = s.ports := rfl
@[simp] theorem setLoad_mail (l : Option Load) (s : State) : (setLoad l s).mail = s.mail := rfl
@[simp] theorem setLoad_pending (l : Option Load) (s : State) : (setLoad l s).pending = s.pending := rfl

/-! ### leaveAttention -/

@[simp] theorem leaveAttention_shipTime (k : Nat) (s : State) : (leaveAttention k s).shipTime = s.shipTime := rfl
@[simp] theorem leaveAttention_settings (k : Nat) (s : State) : (leaveAttention k s).settings = s.settings := rfl
@[simp] theorem leaveAttention_ctp (k : Nat) (s : State) : (leaveAttention k s).ctp = s.ctp := rfl
@[simp] theorem leaveAttention_pzu (k : Nat) (s : State) : (leaveAttention k s).pzu = s.pzu := rfl
@[simp] theorem leaveAttention_epc (k : Nat) (s : State) : (leaveAttention k s).epc = s.epc := rfl
@[simp] theorem leaveAttention_lkm (k : Nat) (s : State) : (leaveAttention k s).lkm = s.lkm := rfl
@[simp] theorem leaveAttention_cap (k : Nat) (s : State) : (leaveAttention k s).cap = s.cap := rfl
@[simp] theorem leaveAttention_duc (k : Nat) (s : State) : (leaveAttention k s).duc = s.duc := rfl
@[simp] theorem leaveAttention_sbt (k : Nat) (s : State) : (leaveAttention k s).sbt = s.sbt := rfl
@[simp] theorem leaveAttention_rge (k : Nat) (s : State) : (leaveAttention k s).rge = s.rge := rfl
@[simp] theorem leaveAttention_rte (k : Nat) (s : State) :
    (leaveAttention k s).rte = { s.rte with attention := s.rte.attention.filter (fun e => e.1 != k) } :=
  rfl
@[simp] theorem leaveAttention_tkq (k : Nat) (s : State) : (leaveAttention k s).tkq = s.tkq := rfl
@[simp] theorem leaveAttention_cfs (k : Nat) (s : State) : (leaveAttention k s).cfs = s.cfs := rfl
@[simp] theorem leaveAttention_ports (k : Nat) (s : State) : (leaveAttention k s).ports = s.ports := rfl
@[simp] theorem leaveAttention_mail (k : Nat) (s : State) : (leaveAttention k s).mail = s.mail := rfl
@[simp] theorem leaveAttention_pending (k : Nat) (s : State) : (leaveAttention k s).pending = s.pending := rfl

/-! ### setForced -/

@[simp] theorem setForced_shipTime (z : Option Nat) (s : State) : (setForced z s).shipTime = s.shipTime := rfl
@[simp] theorem setForced_settings (z : Option Nat) (s : State) : (setForced z s).settings = s.settings := rfl
@[simp] theorem setForced_ctp (z : Option Nat) (s : State) : (setForced z s).ctp = s.ctp := rfl
@[simp] theorem setForced_pzu (z : Option Nat) (s : State) :
    (setForced z s).pzu = { s.pzu with forced := z, candidate := none, confirmCount := 0 } :=
  rfl
@[simp] theorem setForced_epc (z : Option Nat) (s : State) : (setForced z s).epc = s.epc := rfl
@[simp] theorem setForced_lkm (z : Option Nat) (s : State) : (setForced z s).lkm = s.lkm := rfl
@[simp] theorem setForced_cap (z : Option Nat) (s : State) : (setForced z s).cap = s.cap := rfl
@[simp] theorem setForced_duc (z : Option Nat) (s : State) : (setForced z s).duc = s.duc := rfl
@[simp] theorem setForced_sbt (z : Option Nat) (s : State) : (setForced z s).sbt = s.sbt := rfl
@[simp] theorem setForced_rge (z : Option Nat) (s : State) : (setForced z s).rge = s.rge := rfl
@[simp] theorem setForced_rte (z : Option Nat) (s : State) : (setForced z s).rte = s.rte := rfl
@[simp] theorem setForced_tkq (z : Option Nat) (s : State) : (setForced z s).tkq = s.tkq := rfl
@[simp] theorem setForced_cfs (z : Option Nat) (s : State) : (setForced z s).cfs = s.cfs := rfl
@[simp] theorem setForced_ports (z : Option Nat) (s : State) : (setForced z s).ports = s.ports := rfl
@[simp] theorem setForced_mail (z : Option Nat) (s : State) : (setForced z s).mail = s.mail := rfl
@[simp] theorem setForced_pending (z : Option Nat) (s : State) : (setForced z s).pending = s.pending := rfl

/-! ### storeGrants -/

@[simp] theorem storeGrants_shipTime (d : Option (Nat × List CellId)) (s : State) :
    (storeGrants d s).shipTime = s.shipTime :=
  rfl
@[simp] theorem storeGrants_settings (d : Option (Nat × List CellId)) (s : State) :
    (storeGrants d s).settings = s.settings :=
  rfl
@[simp] theorem storeGrants_ctp (d : Option (Nat × List CellId)) (s : State) : (storeGrants d s).ctp = s.ctp := rfl
@[simp] theorem storeGrants_pzu (d : Option (Nat × List CellId)) (s : State) : (storeGrants d s).pzu = s.pzu := rfl
@[simp] theorem storeGrants_epc (d : Option (Nat × List CellId)) (s : State) : (storeGrants d s).epc = s.epc := rfl
@[simp] theorem storeGrants_lkm (d : Option (Nat × List CellId)) (s : State) : (storeGrants d s).lkm = s.lkm := rfl
@[simp] theorem storeGrants_sbt (d : Option (Nat × List CellId)) (s : State) : (storeGrants d s).sbt = s.sbt := rfl
@[simp] theorem storeGrants_rge (d : Option (Nat × List CellId)) (s : State) : (storeGrants d s).rge = s.rge := rfl
@[simp] theorem storeGrants_rte (d : Option (Nat × List CellId)) (s : State) : (storeGrants d s).rte = s.rte := rfl
@[simp] theorem storeGrants_tkq (d : Option (Nat × List CellId)) (s : State) : (storeGrants d s).tkq = s.tkq := rfl
@[simp] theorem storeGrants_cfs (d : Option (Nat × List CellId)) (s : State) : (storeGrants d s).cfs = s.cfs := rfl
@[simp] theorem storeGrants_ports (d : Option (Nat × List CellId)) (s : State) : (storeGrants d s).ports = s.ports := rfl
@[simp] theorem storeGrants_mail (d : Option (Nat × List CellId)) (s : State) : (storeGrants d s).mail = s.mail := rfl
@[simp] theorem storeGrants_pending (d : Option (Nat × List CellId)) (s : State) :
    (storeGrants d s).pending = s.pending :=
  rfl

/-! ### replied -/

@[simp] theorem replied_shipTime (tag code : Nat) (body : List Byte) (status : Status) (reply : List Byte) (s : State) :
    (s.replied tag code body status reply).shipTime = s.shipTime :=
  rfl
@[simp] theorem replied_settings (tag code : Nat) (body : List Byte) (status : Status) (reply : List Byte) (s : State) :
    (s.replied tag code body status reply).settings = s.settings :=
  rfl
@[simp] theorem replied_pzu (tag code : Nat) (body : List Byte) (status : Status) (reply : List Byte) (s : State) :
    (s.replied tag code body status reply).pzu = s.pzu :=
  rfl
@[simp] theorem replied_epc (tag code : Nat) (body : List Byte) (status : Status) (reply : List Byte) (s : State) :
    (s.replied tag code body status reply).epc = s.epc :=
  rfl
@[simp] theorem replied_lkm (tag code : Nat) (body : List Byte) (status : Status) (reply : List Byte) (s : State) :
    (s.replied tag code body status reply).lkm = s.lkm :=
  rfl
@[simp] theorem replied_cap (tag code : Nat) (body : List Byte) (status : Status) (reply : List Byte) (s : State) :
    (s.replied tag code body status reply).cap = s.cap :=
  rfl
@[simp] theorem replied_duc (tag code : Nat) (body : List Byte) (status : Status) (reply : List Byte) (s : State) :
    (s.replied tag code body status reply).duc = s.duc :=
  rfl
@[simp] theorem replied_sbt (tag code : Nat) (body : List Byte) (status : Status) (reply : List Byte) (s : State) :
    (s.replied tag code body status reply).sbt = s.sbt :=
  rfl
@[simp] theorem replied_rge (tag code : Nat) (body : List Byte) (status : Status) (reply : List Byte) (s : State) :
    (s.replied tag code body status reply).rge = s.rge :=
  rfl
@[simp] theorem replied_rte (tag code : Nat) (body : List Byte) (status : Status) (reply : List Byte) (s : State) :
    (s.replied tag code body status reply).rte = s.rte :=
  rfl
@[simp] theorem replied_tkq (tag code : Nat) (body : List Byte) (status : Status) (reply : List Byte) (s : State) :
    (s.replied tag code body status reply).tkq = s.tkq :=
  rfl
@[simp] theorem replied_cfs (tag code : Nat) (body : List Byte) (status : Status) (reply : List Byte) (s : State) :
    (s.replied tag code body status reply).cfs = s.cfs :=
  rfl
@[simp] theorem replied_ports (tag code : Nat) (body : List Byte) (status : Status) (reply : List Byte) (s : State) :
    (s.replied tag code body status reply).ports = s.ports :=
  rfl
@[simp] theorem replied_mail (tag code : Nat) (body : List Byte) (status : Status) (reply : List Byte) (s : State) :
    (s.replied tag code body status reply).mail = s.mail :=
  rfl
@[simp] theorem replied_pending (tag code : Nat) (body : List Byte) (status : Status) (reply : List Byte) (s : State) :
    (s.replied tag code body status reply).pending = s.pending :=
  rfl

/-! ### Bytes clocked out (R182) -/

@[simp] theorem headLeaves_shipTime (s : State) : (headLeaves s).shipTime = s.shipTime := by
  unfold headLeaves; split <;> rfl
@[simp] theorem headLeaves_settings (s : State) : (headLeaves s).settings = s.settings := by
  unfold headLeaves; split <;> rfl
@[simp] theorem headLeaves_pzu (s : State) : (headLeaves s).pzu = s.pzu := by
  unfold headLeaves; split <;> rfl
@[simp] theorem headLeaves_epc (s : State) : (headLeaves s).epc = s.epc := by
  unfold headLeaves; split <;> rfl
@[simp] theorem headLeaves_lkm (s : State) : (headLeaves s).lkm = s.lkm := by
  unfold headLeaves; split <;> rfl
@[simp] theorem headLeaves_cap (s : State) : (headLeaves s).cap = s.cap := by
  unfold headLeaves; split <;> rfl
@[simp] theorem headLeaves_duc (s : State) : (headLeaves s).duc = s.duc := by
  unfold headLeaves; split <;> rfl
@[simp] theorem headLeaves_sbt (s : State) : (headLeaves s).sbt = s.sbt := by
  unfold headLeaves; split <;> rfl
@[simp] theorem headLeaves_rge (s : State) : (headLeaves s).rge = s.rge := by
  unfold headLeaves; split <;> rfl
@[simp] theorem headLeaves_rte (s : State) : (headLeaves s).rte = s.rte := by
  unfold headLeaves; split <;> rfl
@[simp] theorem headLeaves_tkq (s : State) : (headLeaves s).tkq = s.tkq := by
  unfold headLeaves; split <;> rfl
@[simp] theorem headLeaves_cfs (s : State) : (headLeaves s).cfs = s.cfs := by
  unfold headLeaves; split <;> rfl
@[simp] theorem headLeaves_ports (s : State) : (headLeaves s).ports = s.ports := by
  unfold headLeaves; split <;> rfl
@[simp] theorem headLeaves_mail (s : State) : (headLeaves s).mail = s.mail := by
  unfold headLeaves; split <;> rfl
@[simp] theorem headLeaves_pending (s : State) : (headLeaves s).pending = s.pending := by
  unfold headLeaves; split <;> rfl

@[simp] theorem clockOut_shipTime (s : State) : (clockOut s).shipTime = s.shipTime := by
  simp only [clockOut]
  split
  · rfl
  · split <;> simp
@[simp] theorem clockOut_settings (s : State) : (clockOut s).settings = s.settings := by
  simp only [clockOut]
  split
  · rfl
  · split <;> simp
@[simp] theorem clockOut_pzu (s : State) : (clockOut s).pzu = s.pzu := by
  simp only [clockOut]
  split
  · rfl
  · split <;> simp
@[simp] theorem clockOut_epc (s : State) : (clockOut s).epc = s.epc := by
  simp only [clockOut]
  split
  · rfl
  · split <;> simp
@[simp] theorem clockOut_lkm (s : State) : (clockOut s).lkm = s.lkm := by
  simp only [clockOut]
  split
  · rfl
  · split <;> simp
@[simp] theorem clockOut_cap (s : State) : (clockOut s).cap = s.cap := by
  simp only [clockOut]
  split
  · rfl
  · split <;> simp
@[simp] theorem clockOut_duc (s : State) : (clockOut s).duc = s.duc := by
  simp only [clockOut]
  split
  · rfl
  · split <;> simp
@[simp] theorem clockOut_sbt (s : State) : (clockOut s).sbt = s.sbt := by
  simp only [clockOut]
  split
  · rfl
  · split <;> simp
@[simp] theorem clockOut_rge (s : State) : (clockOut s).rge = s.rge := by
  simp only [clockOut]
  split
  · rfl
  · split <;> simp
@[simp] theorem clockOut_rte (s : State) : (clockOut s).rte = s.rte := by
  simp only [clockOut]
  split
  · rfl
  · split <;> simp
@[simp] theorem clockOut_tkq (s : State) : (clockOut s).tkq = s.tkq := by
  simp only [clockOut]
  split
  · rfl
  · split <;> simp
@[simp] theorem clockOut_cfs (s : State) : (clockOut s).cfs = s.cfs := by
  simp only [clockOut]
  split
  · rfl
  · split <;> simp
@[simp] theorem clockOut_mail (s : State) : (clockOut s).mail = s.mail := by
  simp only [clockOut]
  split
  · rfl
  · split <;> simp
@[simp] theorem clockOut_pending (s : State) : (clockOut s).pending = s.pending := by
  simp only [clockOut]
  split
  · rfl
  · split <;> simp

@[simp] theorem clocked_shipTime (n : Nat) (s : State) : (s.clocked n).shipTime = s.shipTime := by
  induction n generalizing s with
  | zero => rfl
  | succ n ih => rw [State.clocked, ih, clockOut_shipTime]
@[simp] theorem clocked_settings (n : Nat) (s : State) : (s.clocked n).settings = s.settings := by
  induction n generalizing s with
  | zero => rfl
  | succ n ih => rw [State.clocked, ih, clockOut_settings]
@[simp] theorem clocked_pzu (n : Nat) (s : State) : (s.clocked n).pzu = s.pzu := by
  induction n generalizing s with
  | zero => rfl
  | succ n ih => rw [State.clocked, ih, clockOut_pzu]
@[simp] theorem clocked_epc (n : Nat) (s : State) : (s.clocked n).epc = s.epc := by
  induction n generalizing s with
  | zero => rfl
  | succ n ih => rw [State.clocked, ih, clockOut_epc]
@[simp] theorem clocked_lkm (n : Nat) (s : State) : (s.clocked n).lkm = s.lkm := by
  induction n generalizing s with
  | zero => rfl
  | succ n ih => rw [State.clocked, ih, clockOut_lkm]
@[simp] theorem clocked_cap (n : Nat) (s : State) : (s.clocked n).cap = s.cap := by
  induction n generalizing s with
  | zero => rfl
  | succ n ih => rw [State.clocked, ih, clockOut_cap]
@[simp] theorem clocked_duc (n : Nat) (s : State) : (s.clocked n).duc = s.duc := by
  induction n generalizing s with
  | zero => rfl
  | succ n ih => rw [State.clocked, ih, clockOut_duc]
@[simp] theorem clocked_sbt (n : Nat) (s : State) : (s.clocked n).sbt = s.sbt := by
  induction n generalizing s with
  | zero => rfl
  | succ n ih => rw [State.clocked, ih, clockOut_sbt]
@[simp] theorem clocked_rge (n : Nat) (s : State) : (s.clocked n).rge = s.rge := by
  induction n generalizing s with
  | zero => rfl
  | succ n ih => rw [State.clocked, ih, clockOut_rge]
@[simp] theorem clocked_rte (n : Nat) (s : State) : (s.clocked n).rte = s.rte := by
  induction n generalizing s with
  | zero => rfl
  | succ n ih => rw [State.clocked, ih, clockOut_rte]
@[simp] theorem clocked_tkq (n : Nat) (s : State) : (s.clocked n).tkq = s.tkq := by
  induction n generalizing s with
  | zero => rfl
  | succ n ih => rw [State.clocked, ih, clockOut_tkq]
@[simp] theorem clocked_cfs (n : Nat) (s : State) : (s.clocked n).cfs = s.cfs := by
  induction n generalizing s with
  | zero => rfl
  | succ n ih => rw [State.clocked, ih, clockOut_cfs]
@[simp] theorem clocked_mail (n : Nat) (s : State) : (s.clocked n).mail = s.mail := by
  induction n generalizing s with
  | zero => rfl
  | succ n ih => rw [State.clocked, ih, clockOut_mail]
@[simp] theorem clocked_pending (n : Nat) (s : State) : (s.clocked n).pending = s.pending := by
  induction n generalizing s with
  | zero => rfl
  | succ n ih => rw [State.clocked, ih, clockOut_pending]

/-! ### refreshLamp -/

@[simp] theorem refreshLamp_shipTime (s : State) : (refreshLamp s).shipTime = s.shipTime := by unfold refreshLamp; split <;> rfl
@[simp] theorem refreshLamp_settings (s : State) : (refreshLamp s).settings = s.settings := by unfold refreshLamp; split <;> rfl
@[simp] theorem refreshLamp_ctp (s : State) : (refreshLamp s).ctp = s.ctp := by unfold refreshLamp; split <;> rfl
@[simp] theorem refreshLamp_pzu (s : State) : (refreshLamp s).pzu = s.pzu := by unfold refreshLamp; split <;> rfl
@[simp] theorem refreshLamp_epc (s : State) : (refreshLamp s).epc = s.epc := by unfold refreshLamp; split <;> rfl
@[simp] theorem refreshLamp_lkm (s : State) : (refreshLamp s).lkm = s.lkm := by unfold refreshLamp; split <;> rfl
@[simp] theorem refreshLamp_cap (s : State) : (refreshLamp s).cap = s.cap := by unfold refreshLamp; split <;> rfl
@[simp] theorem refreshLamp_sbt (s : State) : (refreshLamp s).sbt = s.sbt := by unfold refreshLamp; split <;> rfl
@[simp] theorem refreshLamp_rge (s : State) : (refreshLamp s).rge = s.rge := by unfold refreshLamp; split <;> rfl
@[simp] theorem refreshLamp_rte (s : State) : (refreshLamp s).rte = s.rte := by unfold refreshLamp; split <;> rfl
@[simp] theorem refreshLamp_tkq (s : State) : (refreshLamp s).tkq = s.tkq := by unfold refreshLamp; split <;> rfl
@[simp] theorem refreshLamp_cfs (s : State) : (refreshLamp s).cfs = s.cfs := by unfold refreshLamp; split <;> rfl
@[simp] theorem refreshLamp_ports (s : State) : (refreshLamp s).ports = s.ports := by unfold refreshLamp; split <;> rfl
@[simp] theorem refreshLamp_mail (s : State) : (refreshLamp s).mail = s.mail := by unfold refreshLamp; split <;> rfl
@[simp] theorem refreshLamp_pending (s : State) : (refreshLamp s).pending = s.pending := by unfold refreshLamp; split <;> rfl

@[simp] theorem refreshLamp_cells (s : State) : (refreshLamp s).duc.cells = s.duc.cells := by
  unfold refreshLamp; split <;> rfl

@[simp] theorem refreshLamp_retuneList (s : State) : (refreshLamp s).duc.retuneList = s.duc.retuneList := by
  unfold refreshLamp; split <;> rfl

@[simp] theorem refreshLamp_heldJoins (s : State) : (refreshLamp s).duc.heldJoins = s.duc.heldJoins := by
  unfold refreshLamp; split <;> rfl

@[simp] theorem refreshLamp_forced (s : State) : (refreshLamp s).duc.lamp.forced = s.duc.lamp.forced := by
  unfold refreshLamp; split <;> rfl

@[simp] theorem refreshLamp_cell (s : State) (c : CellId) : (refreshLamp s).cell c = s.cell c := by simp [State.cell]

@[simp] theorem refreshLamp_link (s : State) (l : LinkId) : (refreshLamp s).link l = s.link l := by simp [State.link]

@[simp] theorem refreshLamp_context (s : State) (k : Nat) : (refreshLamp s).context k = s.context k := by
  simp [State.context]

/-- What the lamp should show does not depend on what it shows. -/
@[simp] theorem refreshLamp_lampWanted (s : State) : (refreshLamp s).lampWanted = s.lampWanted := by
  unfold refreshLamp; split <;> rfl

/-- After the refresh the lamp shows what it should (R93). -/
theorem refreshLamp_lampLaw (s : State) : LampLaw (refreshLamp s) := by
  show (refreshLamp s).duc.lamp.pattern = (refreshLamp s).lampWanted
  rw [refreshLamp_lampWanted]
  unfold refreshLamp
  split
  · rename_i h; exact h.symm
  · rfl

/-! ### Records after an update -/

@[simp] theorem setCell_cell_self (c : CellId) (x : Cell) (s : State) : (setCell c x s).cell c = x := by
  show (s.duc.cells.set c.val x c.isLt)[c.val]'c.isLt = x
  simp

theorem setCell_cell_ne {c d : CellId} (h : d ≠ c) (x : Cell) (s : State) : (setCell c x s).cell d = s.cell d := by
  have hv : c.val ≠ d.val := fun e => h (Fin.ext e.symm)
  show (s.duc.cells.set c.val x c.isLt)[d.val]'d.isLt = s.duc.cells[d.val]'d.isLt
  simp [hv]

theorem setCell_cell (c d : CellId) (x : Cell) (s : State) :
    (setCell c x s).cell d = if d = c then x else s.cell d := by
  split
  · rename_i h; subst h; simp
  · rename_i h; exact setCell_cell_ne h x s

@[simp] theorem setLink_link_self (l : LinkId) (x : Link) (s : State) : (setLink l x s).link l = x := by
  show (s.lkm.links.set l.val x l.isLt)[l.val]'l.isLt = x
  simp

theorem setLink_link_ne {l m : LinkId} (h : m ≠ l) (x : Link) (s : State) : (setLink l x s).link m = s.link m := by
  have hv : l.val ≠ m.val := fun e => h (Fin.ext e.symm)
  show (s.lkm.links.set l.val x l.isLt)[m.val]'m.isLt = s.lkm.links[m.val]'m.isLt
  simp [hv]

theorem setLink_link (l m : LinkId) (x : Link) (s : State) :
    (setLink l x s).link m = if m = l then x else s.link m := by
  split
  · rename_i h; subst h; simp
  · rename_i h; exact setLink_link_ne h x s

@[simp] theorem setCell_link (c : CellId) (x : Cell) (s : State) (l : LinkId) : (setCell c x s).link l = s.link l := rfl
@[simp] theorem setCell_context (c : CellId) (x : Cell) (s : State) (k : Nat) : (setCell c x s).context k = s.context k := rfl
@[simp] theorem setLink_cell (l : LinkId) (x : Link) (s : State) (c : CellId) : (setLink l x s).cell c = s.cell c := rfl
@[simp] theorem setLink_context (l : LinkId) (x : Link) (s : State) (k : Nat) : (setLink l x s).context k = s.context k := rfl
@[simp] theorem setContext_cell (k : Nat) (x : Context) (s : State) (c : CellId) : (setContext k x s).cell c = s.cell c := rfl
@[simp] theorem setContext_link (k : Nat) (x : Context) (s : State) (l : LinkId) : (setContext k x s).link l = s.link l := rfl
@[simp] theorem emitDeck_cell (d : CellId) (f : DeckFrame) (s : State) (c : CellId) : (emitDeck d f s).cell c = s.cell c := rfl
@[simp] theorem emitDeck_link (d : CellId) (f : DeckFrame) (s : State) (l : LinkId) : (emitDeck d f s).link l = s.link l := rfl
@[simp] theorem emitDeck_context (d : CellId) (f : DeckFrame) (s : State) (k : Nat) :
    (emitDeck d f s).context k = s.context k := rfl
@[simp] theorem sendTerminal_cell (m : LinkId) (f : TermFrame) (s : State) (c : CellId) :
    (sendTerminal m f s).cell c = s.cell c := rfl
@[simp] theorem sendTerminal_link (m : LinkId) (f : TermFrame) (s : State) (l : LinkId) :
    (sendTerminal m f s).link l = s.link l := rfl
@[simp] theorem sendTerminal_context (m : LinkId) (f : TermFrame) (s : State) (k : Nat) :
    (sendTerminal m f s).context k = s.context k := rfl
@[simp] theorem setCond_cell (d : Condition) (s : State) (c : CellId) : (setCond d s).cell c = s.cell c := rfl
@[simp] theorem setCond_link (d : Condition) (s : State) (l : LinkId) : (setCond d s).link l = s.link l := rfl
@[simp] theorem setCond_context (d : Condition) (s : State) (k : Nat) : (setCond d s).context k = s.context k := rfl
@[simp] theorem reachDeadline_cell (d : Nat) (s : State) (c : CellId) : (reachDeadline d s).cell c = s.cell c := rfl
@[simp] theorem reachDeadline_link (d : Nat) (s : State) (l : LinkId) : (reachDeadline d s).link l = s.link l := rfl
@[simp] theorem reachDeadline_context (d : Nat) (s : State) (k : Nat) : (reachDeadline d s).context k = s.context k := rfl

/-- A condition that has been set is set (R184). -/
@[simp] theorem setCond_condSet_self (c : Condition) (s : State) : (setCond c s).condSet c = true := by
  cases c <;> simp [State.condSet, setCond, Condition.bit, Condition.position]

/-- Setting a condition clears none (R184). -/
theorem setCond_condSet_mono (c d : Condition) (s : State) (h : s.condSet d = true) : (setCond c s).condSet d = true := by
  simp only [State.condSet, setCond, BitVec.getLsbD_or] at *
  simp [h]

end Sys2Proof.Machine
end

