-- ==== Sys2Proof/Laws/Ops.lean ====
section
/-! SUPPORT. One lemma per shared operation, which says everything it can do: the sparse tables, the staging buffer, the loops,
timers, frames, restriction sets, the taking of a request, and the words of the statements against the operations. -/

namespace Sys2Proof.Machine

/-! ### Sparse tables -/

variable {α : Type}

@[simp] theorem Assoc.get_put_self (l : List (Nat × α)) (i : Nat) (v : α) : Assoc.get (Assoc.put l i v) i = some v := by
  induction l with
  | nil => simp [Assoc.put, Assoc.get]
  | cons e t ih =>
    obtain ⟨k, w⟩ := e
    simp only [Assoc.put]
    split
    · simp [Assoc.get]
    · split
      · simp [Assoc.get]
      · rename_i h1 h2
        have : k ≠ i := fun h => h2 h.symm
        simp [Assoc.get, this, ih]

theorem Assoc.get_put_ne (l : List (Nat × α)) {i j : Nat} (h : j ≠ i) (v : α) :
    Assoc.get (Assoc.put l i v) j = Assoc.get l j := by
  induction l with
  | nil => simp [Assoc.put, Assoc.get, h.symm]
  | cons e t ih =>
    obtain ⟨k, w⟩ := e
    simp only [Assoc.put]
    split
    · simp [Assoc.get, h.symm]
    · split
      · rename_i h2; subst h2; simp [Assoc.get, h.symm]
      · simp [Assoc.get, ih]

/-- The indices that a put leaves: those there were and the one put. -/
theorem Assoc.mem_put_fst (l : List (Nat × α)) (i : Nat) (v : α) (e : Nat × α) (h : e ∈ Assoc.put l i v) :
    e = (i, v) ∨ e ∈ l := by
  induction l with
  | nil => simpa [Assoc.put] using h
  | cons f t ih =>
    obtain ⟨k, w⟩ := f
    simp only [Assoc.put] at h
    split at h
    · simpa using h
    · split at h
      · rcases List.mem_cons.mp h with h | h
        · exact .inl h
        · exact .inr (List.mem_cons_of_mem _ h)
      · rcases List.mem_cons.mp h with h | h
        · exact .inr (h ▸ List.mem_cons_self)
        · exact (ih h).imp_right (List.mem_cons_of_mem _)

/-- A put keeps the indices in rising order. -/
theorem Assoc.put_pairwise (l : List (Nat × α)) (i : Nat) (v : α) (h : l.Pairwise (fun a b => a.1 < b.1)) :
    (Assoc.put l i v).Pairwise (fun a b => a.1 < b.1) := by
  induction l with
  | nil => simp [Assoc.put]
  | cons f t ih =>
    obtain ⟨k, w⟩ := f
    obtain ⟨h1, h2⟩ := List.pairwise_cons.mp h
    simp only [Assoc.put]
    split
    · rename_i hlt
      refine List.pairwise_cons.mpr ⟨fun b hb => ?_, h⟩
      rcases List.mem_cons.mp hb with rfl | hb
      · exact hlt
      · exact hlt.trans (h1 b hb)
    · split
      · rename_i _ heq
        subst heq
        exact List.pairwise_cons.mpr ⟨h1, h2⟩
      · rename_i hlt hne
        refine List.pairwise_cons.mpr ⟨fun b hb => ?_, ih h2⟩
        rcases Assoc.mem_put_fst t i v b hb with rfl | hb
        · simp only; omega
        · exact h1 b hb

/-- An erasure keeps the indices in rising order. -/
theorem Assoc.erase_pairwise (l : List (Nat × α)) (i : Nat) (h : l.Pairwise (fun a b => a.1 < b.1)) :
    (Assoc.erase l i).Pairwise (fun a b => a.1 < b.1) := h.filter _

@[simp] theorem Assoc.get_erase_self (l : List (Nat × α)) (i : Nat) : Assoc.get (Assoc.erase l i) i = none := by
  induction l with
  | nil => rfl
  | cons f t ih =>
    obtain ⟨k, w⟩ := f
    by_cases h : k = i
    · simpa [Assoc.erase, h] using ih
    · simpa [Assoc.erase, Assoc.get, h] using ih

theorem Assoc.get_erase_ne (l : List (Nat × α)) {i j : Nat} (h : j ≠ i) : Assoc.get (Assoc.erase l i) j = Assoc.get l j := by
  induction l with
  | nil => rfl
  | cons f t ih =>
    obtain ⟨k, w⟩ := f
    by_cases hk : k = i
    · subst hk
      simpa [Assoc.erase, Assoc.get, h.symm] using ih
    · by_cases hj : k = j <;> simp_all [Assoc.erase, Assoc.get]

/-- In a rising list an entry is there exactly when a lookup finds it. -/
theorem Assoc.get_eq_some_iff (l : List (Nat × α)) (h : l.Pairwise (fun a b => a.1 < b.1)) (i : Nat) (v : α) :
    Assoc.get l i = some v ↔ (i, v) ∈ l := by
  induction l with
  | nil => simp [Assoc.get]
  | cons f t ih =>
    obtain ⟨k, w⟩ := f
    obtain ⟨h1, h2⟩ := List.pairwise_cons.mp h
    by_cases hk : k = i
    · subst hk
      simp only [Assoc.get, if_true, Option.some.injEq, List.mem_cons, Prod.mk.injEq, true_and]
      refine ⟨fun e => .inl e.symm, fun e => ?_⟩
      rcases e with e | e
      · exact e.symm
      · exact absurd (h1 _ e) (lt_irrefl _)
    · have hk' : i ≠ k := fun e => hk e.symm
      simp [Assoc.get, hk, hk', ih h2]

@[simp] theorem setContext_context_self (k : Nat) (x : Context) (s : State) : (setContext k x s).context k = some x :=
  Assoc.get_put_self _ _ _

theorem setContext_context_ne {k j : Nat} (h : j ≠ k) (x : Context) (s : State) :
    (setContext k x s).context j = s.context j := Assoc.get_put_ne _ h _

/-! ### The staging buffer (R188) -/

/-- The offsets of a chunk run from its first on. -/
theorem Staging.mem_chunk (bytes : List Byte) (offset : Nat) (c : Host.Cell) (h : c ∈ Staging.chunk offset bytes) :
    offset ≤ c.1 ∧ c.1 < offset + bytes.length := by
  induction bytes generalizing offset with
  | nil => simp [Staging.chunk] at h
  | cons b t ih =>
    rcases List.mem_cons.mp h with rfl | h
    · simp
    · have := ih (offset + 1) h
      simp only [List.length_cons]
      omega

theorem Staging.chunk_wf (bytes : List Byte) (offset : Nat) : Staging.wf (Staging.chunk offset bytes) := by
  induction bytes generalizing offset with
  | nil => simp [Staging.chunk, Staging.wf]
  | cons b t ih =>
    refine List.pairwise_cons.mpr ⟨fun c hc => ?_, ih (offset + 1)⟩
    have := Staging.mem_chunk t (offset + 1) c hc
    simp only
    omega

/-- A write keeps the staging buffer in its canonical form. -/
theorem Staging.write_wf (cells : List Host.Cell) (offset : Nat) (bytes : List Byte) (h : Staging.wf cells) :
    Staging.wf (Staging.write cells offset bytes) := by
  refine List.pairwise_append.mpr ⟨List.pairwise_append.mpr ⟨h.filter _, Staging.chunk_wf bytes offset, ?_⟩, h.filter _, ?_⟩
  · intro a ha b hb
    have := Staging.mem_chunk bytes offset b hb
    have := (List.mem_filter.mp ha).2
    simp only [decide_eq_true_eq] at this
    omega
  · intro a ha b hb
    have hb := (List.mem_filter.mp hb).2
    simp only [decide_eq_true_eq] at hb
    rcases List.mem_append.mp ha with ha | ha
    · have := (List.mem_filter.mp ha).2
      simp only [decide_eq_true_eq] at this
      omega
    · have := Staging.mem_chunk bytes offset a ha
      omega

/-! ### Loops -/

@[simp] theorem forEach_nil {β : Type} (f : β → State → State) (s : State) : forEach [] f s = s := rfl

@[simp] theorem forEach_cons {β : Type} (a : β) (t : List β) (f : β → State → State) (s : State) :
    forEach (a :: t) f s = forEach t f (f a s) := rfl

/-- What every turn of a loop keeps, the loop keeps. -/
theorem forEach_keeps {β : Type} {items : List β} {f : β → State → State} {property : State → Prop}
    (step : ∀ a ∈ items, ∀ t, property t → property (f a t)) {s : State} (h : property s) :
    property (forEach items f s) := by
  induction items generalizing s with
  | nil => exact h
  | cons a t ih =>
    exact ih (fun b hb => step b (List.mem_cons_of_mem _ hb)) (step a List.mem_cons_self s h)

/-! ### Timers, frames and changes of one context -/

/-- An expiry: nothing where the timer is stopped, else its effect at the deadline. -/
theorem atExpiry_cases (t : Timer) (effect : State → State) (s : State) :
    (t = none ∧ atExpiry t effect s = s) ∨ ∃ d, t = some d ∧ atExpiry t effect s = effect (reachDeadline d s) := by
  cases t with
  | none => exact .inl ⟨rfl, rfl⟩
  | some d => exact .inr ⟨d, rfl, rfl⟩

/-- A frame another block asks for: sent to a joined cell, held back from any other (R61). -/
theorem sendDeck_cases (c : CellId) (f : DeckFrame) (s : State) :
    ((s.cell c).state.joined = true ∧ sendDeck c f s = emitDeck c f s)
      ∨ ((s.cell c).state.joined = false ∧ sendDeck c f s = s) := by
  unfold sendDeck
  cases h : (s.cell c).state.joined <;> simp

/-- A change of one context: nothing where it is FREE. -/
theorem modContext_cases (k : Nat) (f : Context → Context) (s : State) :
    (s.context k = none ∧ modContext k f s = s) ∨ ∃ x, s.context k = some x ∧ modContext k f s = setContext k (f x) s := by
  unfold modContext
  cases h : s.context k with
  | none => exact .inl ⟨rfl, rfl⟩
  | some x => exact .inr ⟨x, rfl, rfl⟩

/-- A change of a restriction set: nothing for a FREE context; else the set is written, and the unit of an ACTIVE context is told
by RESTRICT where the set was empty and is not, and by LIFT where it was not and is (R115). -/
theorem restrict_cases (k : Nat) (f : Restrictions → Restrictions) (s : State) :
    (s.context k = none ∧ restrict k f s = s)
      ∨ ∃ x, s.context k = some x
        ∧ (restrict k f s = setContext k { x with restrictions := f x.restrictions } s
          ∨ (x.state = .active ∧ (f x.restrictions).isEmpty = false ∧ x.restrictions.isEmpty = true
            ∧ restrict k f s
              = sendDeck x.cell (.restrict x.sid k) (setContext k { x with restrictions := f x.restrictions } s))
          ∨ (x.state = .active ∧ (f x.restrictions).isEmpty = true ∧ x.restrictions.isEmpty = false
            ∧ restrict k f s
              = sendDeck x.cell (.lift x.sid k) (setContext k { x with restrictions := f x.restrictions } s))) := by
  unfold restrict
  cases h : s.context k with
  | none => exact .inl ⟨rfl, rfl⟩
  | some x =>
    refine .inr ⟨x, rfl, ?_⟩
    cases h1 : x.restrictions.isEmpty <;> cases h2 : (f x.restrictions).isEmpty <;> by_cases h3 : x.state = .active <;>
      simp [h1, h2, h3]

/-! ### Bytes clocked out (R182) -/

/-- Everything one clocking out can do: the fill byte, a byte of the head frame, or its last byte, with which it leaves. -/
theorem clockOut_cases (s : State) :
    (s.ctp.outbound = [] ∧ clockOut s = emitBytes [0x00#8] s)
    ∨ (∃ f rest, s.ctp.outbound = f :: rest ∧ s.ctp.sent + 1 < f.bytes.length
      ∧ clockOut s =
        { emitBytes [f.bytes.getD s.ctp.sent 0x00#8] s with ctp := { s.ctp with sent := s.ctp.sent + 1 } })
    ∨ ∃ f rest, s.ctp.outbound = f :: rest ∧ f.bytes.length ≤ s.ctp.sent + 1
      ∧ clockOut s = headLeaves (emitBytes [f.bytes.getD s.ctp.sent 0x00#8] s) := by
  cases h : s.ctp.outbound with
  | nil => exact .inl ⟨rfl, by simp [clockOut, State.nextByte, h]⟩
  | cons f rest =>
    by_cases hl : s.ctp.sent + 1 < f.bytes.length
    · exact .inr (.inl ⟨f, rest, rfl, hl, by simp [clockOut, State.nextByte, h, hl]⟩)
    · exact .inr (.inr ⟨f, rest, rfl, by omega, by simp [clockOut, State.nextByte, h, hl]⟩)

/-- Everything that a frame's leaving can do: nothing with an empty queue; else the head goes, the send position is 0, and a
queued request's reply takes the first answered entry with it. -/
theorem headLeaves_cases (s : State) :
    (s.ctp.outbound = [] ∧ headLeaves s = s)
    ∨ ∃ f rest, s.ctp.outbound = f :: rest
      ∧ headLeaves s =
        { s with
          ctp :=
            { s.ctp with
              outbound := rest
              sent := 0
              inbound := if f.kind = .reply then s.ctp.inbound.eraseP InEntry.answered else s.ctp.inbound } } := by
  cases h : s.ctp.outbound with
  | nil => exact .inl ⟨rfl, by simp [headLeaves, h]⟩
  | cons f rest => exact .inr ⟨f, rest, rfl, by simp [headLeaves, h]⟩

/-- Taking an answered entry out leaves the waiting entry nearest the head as it is. -/
theorem find_waiting_eraseP (l : List InEntry) :
    (l.eraseP InEntry.answered).find? (fun e => !e.answered) = l.find? (fun e => !e.answered) := by
  induction l with
  | nil => rfl
  | cons e t => cases h : e.answered <;> simp [h]

/-- Clocking a byte out leaves the waiting entry nearest the head as it is. -/
@[simp] theorem clockOut_firstWaiting (s : State) : (clockOut s).firstWaiting = s.firstWaiting := by
  rcases clockOut_cases s with ⟨-, h⟩ | ⟨f, rest, -, -, h⟩ | ⟨f, rest, -, -, h⟩
  · rw [h]; rfl
  · rw [h]; rfl
  · rw [h]
    rcases headLeaves_cases (emitBytes [f.bytes.getD s.ctp.sent 0x00#8] s) with ⟨-, h⟩ | ⟨g, rest, -, h⟩
    · rw [h]; rfl
    · rw [h]
      simp only [State.firstWaiting, emitBytes_ctp]
      split
      · exact find_waiting_eraseP _
      · rfl

/-! ### Requests and outcomes -/

/-- A request that arrives and is taken at once: its owner's rule runs with the entry queued, and its reply is appended. -/
theorem request_ready {tag code : Nat} {body : List Byte} {act : State → Answer} {s : State} (ht : tag < 256)
    (h : Ready code s) (hb : bodyFits code body = true) :
    request tag code body act s =
      (let t : State := { s with ctp := { s.ctp with inbound := s.ctp.inbound ++ [⟨tag, code, body, false⟩] } }
      appendReply tag (act t).status (act t).body (act t).state) := by
  obtain ⟨h1, h2, h3, h4⟩ := h
  have h4' : (isProtected code = true → s.ctp.locked = false) := by simpa using h4
  have ht' : tag % 256 = tag := Nat.mod_eq_of_lt ht
  simp only [request, h1, h2, ht', Bool.false_or, decide_eq_true_eq, Nat.not_le.mpr h3, if_false, arrive, h3, if_true,
    takeRequest, hb, h4, Bool.false_eq_true]

/-- Every command ends in a next state (no meaning faults or refuses), with the lamp brought up to date. -/
theorem exec_next (i : Instr) (s : State) : ∃ t, exec i s = .next (refreshLamp t) := by
  cases i <;> exact ⟨_, rfl⟩

/-! ### The words of the statements, and the model's operations -/

/-- A restart's taking changes the list of blocks that have yet to take it, and nothing else. -/
@[simp] theorem restartTaken_duc (b : Block) (s : State) : (s.restartTaken b).duc = s.duc := rfl
@[simp] theorem restartTaken_ctp (b : Block) (s : State) : (s.restartTaken b).ctp = s.ctp := rfl
@[simp] theorem restartTaken_sbt (b : Block) (s : State) : (s.restartTaken b).sbt = s.sbt := rfl
@[simp] theorem restartTaken_restart (b : Block) (s : State) :
    (s.restartTaken b).mail.restart = s.mail.restart.erase b := rfl

/-- The command of a block's restart takes it with some effect, after which waiting malformed requests are answered. -/
theorem exec_restart (b : Block) (s : State) : ∃ effect, exec b.restart s = done (takeRestart b effect s) := by
  cases b <;> exact ⟨_, rfl⟩

/-- Taking the held JOINs is what R76 makes of them. -/
theorem joinsTaken_eq (s : State) : s.joinsTaken = takeHeldJoins s := rfl

/-- The cell table built from a function holds at each index what the function gives. -/
theorem get_ofFn {n : Nat} {β : Type} (f : Fin n → β) (c : Fin n) : (Vector.ofFn f).get c = f c := by
  show (Vector.ofFn f)[c.val] = f c
  simp

/-- What an earlier state held of the capacity and the grants changes nothing else of a state. -/
@[simp] theorem withGrantsOf_cap (s t : State) : (s.withGrantsOf t).cap = s.cap := rfl
@[simp] theorem withGrantsOf_ports (s t : State) : (s.withGrantsOf t).ports = t.ports := rfl
@[simp] theorem withGrantsOf_retuneList (s t : State) : (s.withGrantsOf t).duc.retuneList = t.duc.retuneList := by
  simp only [State.withGrantsOf]
@[simp] theorem withGrantsOf_cell (s t : State) (c : CellId) :
    (s.withGrantsOf t).cell c = { t.cell c with grant := (s.cell c).grant } := by
  simp only [State.withGrantsOf]
  unfold State.cell
  exact get_ofFn _ c

/-- Holding an entry for a context in use is what R171 makes of it. -/
theorem holdUsage_eq {k up down number : Nat} {x : Context} {s : State} (h : s.context k = some x) :
    holdUsage k up down number s = s.heldBack k up down number x := by
  simp only [holdUsage, modContext, h, State.heldBack, satAdd, max16]
  rfl

/-- The epoch an entry is rated under (R149). -/
theorem epochFor_fst (number : Nat) (s : State) : (s.epochFor number).1 = s.ratingEpoch number := by
  unfold State.epochFor State.ratingEpoch
  cases s.heldEpoch number <;> rfl

/-- An entry is LATE exactly where its number is not held (R149). -/
theorem epochFor_snd (number : Nat) (s : State) : (s.epochFor number).2 = (s.heldEpoch number).isNone := by
  unfold State.epochFor
  cases s.heldEpoch number <;> rfl

/-- The count of LATE entries after an entry tagged with a number (R155). -/
theorem countLate_epochFor (number : Nat) (s : State) : countLate (s.epochFor number).2 s = s.lateCounted number := by
  rw [epochFor_snd]
  unfold countLate State.lateCounted
  cases s.heldEpoch number <;> rfl

/-- Counting a LATE entry moves no context. -/
@[simp] theorem lateCounted_sbt (number : Nat) (s : State) : (s.lateCounted number).sbt = s.sbt := by
  unfold State.lateCounted
  split <;> rfl

end Sys2Proof.Machine
end

