-- ==== Sys2Proof/Laws/PerInstr.lean ====
section
/-! SUPPORT. The family RequestRow, one lemma per command: what a well-formed request row puts on the control port. -/

namespace Sys2Proof.Laws

open Machine

/-- A big-endian field has the bytes its width says. -/
@[simp] theorem be_length (n v : Nat) : (be n v).length = n := by
  induction n with
  | zero => rfl
  | succ n ih => simp [be, ih]

/-- A well-formed request row stands for a request with a one-byte tag, a code that section 12.2 lists, and a body of a length that
the code admits (R183, R196). -/
def RequestRow.Statement (i : Instr) : Prop :=
  WellFormed i → ∀ r ∈ i.asRequest,
    r.1 < 256 ∧ isRequest r.2.1 = true
      ∧ ∃ bounds ∈ requestLengths r.2.1, bounds.1 ≤ r.2.2.length ∧ r.2.2.length ≤ bounds.2

/-- A row that is no request row has nothing to show. -/
theorem RequestRow.of_none {i : Instr} (h : i.asRequest = none) : RequestRow.Statement i := by
  intro _ r hr
  simp [h] at hr

/-- A request row shows its tag and its body's length. -/
theorem RequestRow.of_some {i : Instr} {tag code lo hi : Nat} {body : List Byte} (h : i.asRequest = some (tag, code, body))
    (hl : requestLengths code = some (lo, hi)) (hw : WellFormed i → tag < 256 ∧ lo ≤ body.length ∧ body.length ≤ hi) :
    RequestRow.Statement i := by
  intro w r hr
  rw [h] at hr
  obtain rfl := Option.some.inj hr
  obtain ⟨h1, h2, h3⟩ := hw w
  exact ⟨h1, by simp [isRequest, hl], (lo, hi), by simp [hl], h2, h3⟩

/-- The same from the first check of a request row, that its tag fits in one byte. -/
theorem RequestRow.of_tag {i : Instr} {tag code lo hi : Nat} {body : List Byte} (h : i.asRequest = some (tag, code, body))
    (hl : requestLengths code = some (lo, hi)) (ht : WellFormed i → fits 1 tag = true)
    (hb : WellFormed i → lo ≤ body.length ∧ body.length ≤ hi) : RequestRow.Statement i :=
  RequestRow.of_some h hl (fun w => ⟨of_decide_eq_true (ht w), hb w⟩)

/-- The first of two checks that both hold. -/
theorem and_left {a b : Bool} (h : (a && b) = true) : a = true := ((Bool.and_eq_true a b).mp h).1

/-- The second of two checks that both hold. -/
theorem and_right {a b : Bool} (h : (a && b) = true) : b = true := ((Bool.and_eq_true a b).mp h).2

theorem RequestRow.hardwareReset : RequestRow.Statement .hardwareReset := RequestRow.of_none rfl

theorem RequestRow.controlFrame (bytes : List Byte) : RequestRow.Statement (.controlFrame bytes) := RequestRow.of_none rfl

theorem RequestRow.gapTimeout : RequestRow.Statement .gapTimeout := RequestRow.of_none rfl

theorem RequestRow.controlFrameSent : RequestRow.Statement .controlFrameSent := RequestRow.of_none rfl

theorem RequestRow.notice : RequestRow.Statement .notice := RequestRow.of_none rfl

theorem RequestRow.fix (tag : Nat) (lat lon : Int) (quality fixTime : Nat) : RequestRow.Statement (.fix tag lat lon quality fixTime) :=
  RequestRow.of_tag rfl rfl (fun w => and_left (and_left (and_left (and_left w)))) (fun _ => by simp)

theorem RequestRow.zoneForce (tag zone : Nat) : RequestRow.Statement (.zoneForce tag zone) :=
  RequestRow.of_tag rfl rfl (fun w => and_left w) (fun _ => by simp)

theorem RequestRow.zoneRelease (tag : Nat) : RequestRow.Statement (.zoneRelease tag) :=
  RequestRow.of_tag rfl rfl (fun w => w) (fun _ => by simp)

theorem RequestRow.zoneQuery (tag : Nat) (zone : Option Nat) : RequestRow.Statement (.zoneQuery tag zone) := by
  cases zone with
  | none => exact RequestRow.of_tag rfl rfl (fun w => and_left w) (fun _ => by simp)
  | some z => exact RequestRow.of_tag rfl rfl (fun w => and_left w) (fun _ => by simp)

theorem RequestRow.staleTimerExpiry : RequestRow.Statement .staleTimerExpiry := RequestRow.of_none rfl

theorem RequestRow.linkEnable (tag link kind : Nat) : RequestRow.Statement (.linkEnable tag link kind) :=
  RequestRow.of_tag rfl rfl (fun w => and_left (and_left w)) (fun _ => by simp)

theorem RequestRow.linkDisable (tag link : Nat) : RequestRow.Statement (.linkDisable tag link) :=
  RequestRow.of_tag rfl rfl (fun w => and_left w) (fun _ => by simp)

theorem RequestRow.linkSet (tag link ceiling bonus : Nat) : RequestRow.Statement (.linkSet tag link ceiling bonus) :=
  RequestRow.of_tag rfl rfl (fun w => and_left (and_left (and_left w))) (fun _ => by simp)

theorem RequestRow.linkQuery (tag link : Nat) : RequestRow.Statement (.linkQuery tag link) :=
  RequestRow.of_tag rfl rfl (fun w => and_left w) (fun _ => by simp)

theorem RequestRow.status (link carrier quality latency capacity : Nat) : RequestRow.Statement (.status link carrier quality latency capacity) := RequestRow.of_none rfl

theorem RequestRow.echo (link sequence : Nat) : RequestRow.Statement (.echo link sequence) := RequestRow.of_none rfl

theorem RequestRow.carried (link : Nat) : RequestRow.Statement (.carried link) := RequestRow.of_none rfl

theorem RequestRow.released (link : Nat) : RequestRow.Statement (.released link) := RequestRow.of_none rfl

theorem RequestRow.terminalFrameInvalid (payload : List Byte) : RequestRow.Statement (.terminalFrameInvalid payload) := RequestRow.of_none rfl

theorem RequestRow.probeTimerExpiry : RequestRow.Statement .probeTimerExpiry := RequestRow.of_none rfl

theorem RequestRow.carryTimeout (link : Nat) : RequestRow.Statement (.carryTimeout link) := RequestRow.of_none rfl

theorem RequestRow.drainTimerExpiry (link : Nat) : RequestRow.Statement (.drainTimerExpiry link) := RequestRow.of_none rfl

theorem RequestRow.holdOffExpiry (link : Nat) : RequestRow.Statement (.holdOffExpiry link) := RequestRow.of_none rfl

theorem RequestRow.dwellTimerExpiry : RequestRow.Statement .dwellTimerExpiry := RequestRow.of_none rfl

theorem RequestRow.linkZoneCheck : RequestRow.Statement .linkZoneCheck := RequestRow.of_none rfl

theorem RequestRow.capacityHandover : RequestRow.Statement .capacityHandover := RequestRow.of_none rfl

theorem RequestRow.regrantTimerExpiry : RequestRow.Statement .regrantTimerExpiry := RequestRow.of_none rfl

theorem RequestRow.join (unit serial : Nat) : RequestRow.Statement (.join unit serial) := RequestRow.of_none rfl

theorem RequestRow.heartbeat (unit phase power demand : Nat) : RequestRow.Statement (.heartbeat unit phase power demand) := RequestRow.of_none rfl

theorem RequestRow.heartbeatTimerExpiry (cell : Nat) : RequestRow.Statement (.heartbeatTimerExpiry cell) := RequestRow.of_none rfl

theorem RequestRow.deckFrameInvalid (payload : List Byte) : RequestRow.Statement (.deckFrameInvalid payload) := RequestRow.of_none rfl

theorem RequestRow.cellDisable (tag cell : Nat) : RequestRow.Statement (.cellDisable tag cell) :=
  RequestRow.of_tag rfl rfl (fun w => and_left w) (fun _ => by simp)

theorem RequestRow.cellEnable (tag cell : Nat) : RequestRow.Statement (.cellEnable tag cell) :=
  RequestRow.of_tag rfl rfl (fun w => and_left w) (fun _ => by simp)

theorem RequestRow.cellQuery (tag cell clear : Nat) : RequestRow.Statement (.cellQuery tag cell clear) :=
  RequestRow.of_tag rfl rfl (fun w => and_left (and_left w)) (fun _ => by simp)

theorem RequestRow.activity (unit : Nat) (kinds : List Nat) : RequestRow.Statement (.activity unit kinds) := RequestRow.of_none rfl

theorem RequestRow.idleTimerExpiry (cell : Nat) : RequestRow.Statement (.idleTimerExpiry cell) := RequestRow.of_none rfl

theorem RequestRow.deepTimerExpiry (cell : Nat) : RequestRow.Statement (.deepTimerExpiry cell) := RequestRow.of_none rfl

theorem RequestRow.cellRetuneOrder : RequestRow.Statement .cellRetuneOrder := RequestRow.of_none rfl

theorem RequestRow.retuned (unit : Nat) (beacon : Beacon) : RequestRow.Statement (.retuned unit beacon) := RequestRow.of_none rfl

theorem RequestRow.retuneTimerExpiry (cell : Nat) : RequestRow.Statement (.retuneTimerExpiry cell) := RequestRow.of_none rfl

theorem RequestRow.cellSilenceOrder : RequestRow.Statement .cellSilenceOrder := RequestRow.of_none rfl

theorem RequestRow.silenced (unit : Nat) : RequestRow.Statement (.silenced unit) := RequestRow.of_none rfl

theorem RequestRow.silenceTimerExpiry (cell : Nat) : RequestRow.Statement (.silenceTimerExpiry cell) := RequestRow.of_none rfl

theorem RequestRow.lampSet (tag pattern : Nat) : RequestRow.Statement (.lampSet tag pattern) :=
  RequestRow.of_tag rfl rfl (fun w => and_left w) (fun _ => by simp)

theorem RequestRow.attach (unit : Nat) (sid : Sid) : RequestRow.Statement (.attach unit sid) := RequestRow.of_none rfl

theorem RequestRow.detach (unit : Nat) (sid : Sid) (ctx : Nat) : RequestRow.Statement (.detach unit sid ctx) := RequestRow.of_none rfl

theorem RequestRow.subRelease (tag ctx : Nat) : RequestRow.Statement (.subRelease tag ctx) :=
  RequestRow.of_tag rfl rfl (fun w => and_left w) (fun _ => by simp)

theorem RequestRow.graceDeadline (ctx : Nat) : RequestRow.Statement (.graceDeadline ctx) := RequestRow.of_none rfl

theorem RequestRow.serviceOffRelease : RequestRow.Statement .serviceOffRelease := RequestRow.of_none rfl

theorem RequestRow.subQuery (tag ctx : Nat) : RequestRow.Statement (.subQuery tag ctx) :=
  RequestRow.of_tag rfl rfl (fun w => and_left w) (fun _ => by simp)

theorem RequestRow.subFind (tag : Nat) (sid : Sid) : RequestRow.Statement (.subFind tag sid) :=
  RequestRow.of_tag rfl rfl (fun w => w) (fun _ => by simp)

theorem RequestRow.regAns (link correlation result cause : Nat) : RequestRow.Statement (.regAns link correlation result cause) := RequestRow.of_none rfl

theorem RequestRow.regTimeoutDeadline (correlation : Nat) : RequestRow.Statement (.regTimeoutDeadline correlation) := RequestRow.of_none rfl

theorem RequestRow.reevaluation : RequestRow.Statement .reevaluation := RequestRow.of_none rfl

theorem RequestRow.subReregister (tag ctx : Nat) : RequestRow.Statement (.subReregister tag ctx) :=
  RequestRow.of_tag rfl rfl (fun w => and_left w) (fun _ => by simp)

theorem RequestRow.epochOpen (reason : OpenReason) : RequestRow.Statement (.epochOpen reason) := RequestRow.of_none rfl

theorem RequestRow.usageEnd (unit epoch : Nat) : RequestRow.Statement (.usageEnd unit epoch) := RequestRow.of_none rfl

theorem RequestRow.cutTimerExpiry (epoch : Nat) : RequestRow.Statement (.cutTimerExpiry epoch) := RequestRow.of_none rfl

theorem RequestRow.usage (unit epoch : Nat) (entries : List UsageEntry) : RequestRow.Statement (.usage unit epoch entries) := RequestRow.of_none rfl

theorem RequestRow.quotaGrant (tag ctx mode amount : Nat) : RequestRow.Statement (.quotaGrant tag ctx mode amount) :=
  RequestRow.of_tag rfl rfl (fun w => and_left (and_left (and_left w))) (fun _ => by simp)

theorem RequestRow.quotaAttentionRead (tag : Nat) : RequestRow.Statement (.quotaAttentionRead tag) :=
  RequestRow.of_tag rfl rfl (fun w => w) (fun _ => by simp)

theorem RequestRow.ticketRead (tag max : Nat) : RequestRow.Statement (.ticketRead tag max) :=
  RequestRow.of_tag rfl rfl (fun w => and_left w) (fun _ => by simp)

theorem RequestRow.ticketRelease (tag sequence : Nat) : RequestRow.Statement (.ticketRelease tag sequence) :=
  RequestRow.of_tag rfl rfl (fun w => and_left w) (fun _ => by simp)

theorem RequestRow.intervalDeadline (ctx : Nat) : RequestRow.Statement (.intervalDeadline ctx) := RequestRow.of_none rfl

theorem RequestRow.settingsSet (tag setting value : Nat) : RequestRow.Statement (.settingsSet tag setting value) :=
  RequestRow.of_tag rfl rfl (fun w => and_left (and_left w)) (fun _ => by simp)

theorem RequestRow.settingsGet (tag setting : Nat) : RequestRow.Statement (.settingsGet tag setting) :=
  RequestRow.of_tag rfl rfl (fun w => and_left w) (fun _ => by simp)

theorem RequestRow.timeSet (tag seconds : Nat) : RequestRow.Statement (.timeSet tag seconds) :=
  RequestRow.of_tag rfl rfl (fun w => and_left w) (fun _ => by simp)

theorem RequestRow.condClear (tag : Nat) (conds : CondSet) : RequestRow.Statement (.condClear tag conds) :=
  RequestRow.of_tag rfl rfl (fun w => w) (fun _ => by simp)

theorem RequestRow.condMask (tag : Nat) (conds : CondSet) : RequestRow.Statement (.condMask tag conds) :=
  RequestRow.of_tag rfl rfl (fun w => w) (fun _ => by simp)

theorem RequestRow.statusRead (tag block : Nat) : RequestRow.Statement (.statusRead tag block) :=
  RequestRow.of_tag rfl rfl (fun w => and_left w) (fun _ => by simp)

theorem RequestRow.identify (tag : Nat) : RequestRow.Statement (.identify tag) :=
  RequestRow.of_tag rfl rfl (fun w => w) (fun _ => by simp)

theorem RequestRow.unlock (tag : Nat) (code : Code) : RequestRow.Statement (.unlock tag code) :=
  RequestRow.of_tag rfl rfl (fun w => w) (fun _ => by simp)

theorem RequestRow.lock (tag : Nat) : RequestRow.Statement (.lock tag) :=
  RequestRow.of_tag rfl rfl (fun w => w) (fun _ => by simp)

theorem RequestRow.lockoutTimerExpiry : RequestRow.Statement .lockoutTimerExpiry := RequestRow.of_none rfl

theorem RequestRow.codeSet (tag : Nat) (code : Code) : RequestRow.Statement (.codeSet tag code) :=
  RequestRow.of_tag rfl rfl (fun w => w) (fun _ => by simp)

theorem RequestRow.loadBegin (tag kind total checksum : Nat) : RequestRow.Statement (.loadBegin tag kind total checksum) :=
  RequestRow.of_tag rfl rfl (fun w => and_left (and_left (and_left w))) (fun _ => by simp)

theorem RequestRow.loadData (tag offset : Nat) (bytes : List Byte) : RequestRow.Statement (.loadData tag offset bytes) :=
  RequestRow.of_tag rfl rfl (fun w => and_left (and_left w)) (fun w => by
    have hb := of_decide_eq_true (and_right w)
    simp only [List.length_append, be_length]
    omega)

theorem RequestRow.loadCommit (tag : Nat) : RequestRow.Statement (.loadCommit tag) :=
  RequestRow.of_tag rfl rfl (fun w => w) (fun _ => by simp)

theorem RequestRow.storeSave (tag : Nat) : RequestRow.Statement (.storeSave tag) :=
  RequestRow.of_tag rfl rfl (fun w => w) (fun _ => by simp)

theorem RequestRow.storeWriteCompletion (success : Bool) : RequestRow.Statement (.storeWriteCompletion success) := RequestRow.of_none rfl

theorem RequestRow.restart (tag : Nat) : RequestRow.Statement (.restart tag) :=
  RequestRow.of_tag rfl rfl (fun w => w) (fun _ => by simp)

theorem RequestRow.epcRestart : RequestRow.Statement .epcRestart := RequestRow.of_none rfl

theorem RequestRow.capRestart : RequestRow.Statement .capRestart := RequestRow.of_none rfl

theorem RequestRow.ducRestart : RequestRow.Statement .ducRestart := RequestRow.of_none rfl

theorem RequestRow.sbtRestart : RequestRow.Statement .sbtRestart := RequestRow.of_none rfl

theorem RequestRow.rgeRestart : RequestRow.Statement .rgeRestart := RequestRow.of_none rfl

theorem RequestRow.rteRestart : RequestRow.Statement .rteRestart := RequestRow.of_none rfl

theorem RequestRow.tkqRestart : RequestRow.Statement .tkqRestart := RequestRow.of_none rfl

theorem RequestRow.lengthDiscard : RequestRow.Statement .lengthDiscard := RequestRow.of_none rfl

end Sys2Proof.Laws
end

