-- ==== Sys2Proof/Tests/Slice0.lean ====
section
/-! SUPPORT. Tests: the well-formedness checks on ill-formed commands, the manual's worked examples, and for every obligation
with hypotheses a state and operands that meet them. Expected values are the manual's. -/

namespace Sys2Proof.Tests

open Machine

/-! ### Small states -/

def zonePort : ZoneRecord := ⟨.port, 101, 12, true, ⟨true, true, true⟩, some 0x10101F#24, [⟨5400000, 5410000, 1000000, 1020000⟩]⟩
def zoneSea : ZoneRecord := ⟨.international, 900, 0, false, ⟨false, false, false⟩, some 0x90001F#24, [⟨5000000, 5800000, 500000, 2500000⟩]⟩

/-- In port: zones 0 and 2 present, zone 0 current, every partner entry LOCAL. -/
def home : State :=
  { State.reset with
    pzu := { State.reset.pzu with table := some ⟨2, [(0, zonePort), (2, zoneSea)]⟩, current := 0 }
    rge := { State.reset.rge with generations := [⟨0, some (List.replicate 512 ⟨.local, 3, 1⟩)⟩] } }

/-- At sea: the current zone allows no service. -/
def sea : State := { home with pzu := { home.pzu with current := 2 } }

/-- Every partner entry AUTHORIZE. -/
def registering : State :=
  { home with rge := { home.rge with generations := [⟨0, some (List.replicate 512 ⟨.authorize, 40, 1⟩)⟩] } }

/-- Every partner entry FORBIDDEN. -/
def unserved : State := { home with rge := { home.rge with generations := [⟨0, none⟩] } }

/-- A link record in a state, its timers running. -/
def linkRec (state : LinkState) : Link :=
  { Link.start ⟨true, .satellite, 100, 0⟩ with
    state := state
    last := some ⟨true, 80, 100, 90⟩
    probeOut := true
    misses := 2
    lowQuality := 2
    carryTimer := some 5
    drainTimer := some 5
    holdOffTimer := some 5 }

/-- Link 0 in a state. -/
def linkIn (state : LinkState) (s : State) : State :=
  setLink 0 (linkRec state) { s with lkm := { s.lkm with dwellTimer := some 9 } }

/-- A cell record in a state, its timers running. -/
def cellRec (state : CellState) : Cell :=
  { Cell.start false with
    state := state
    serial := 7
    missed := 1
    demand := 20
    beacon := some 0x10101F#24
    heartbeatTimer := some 5
    idleTimer := some 5
    deepTimer := if state = .doze then some 5 else none
    retuneTimer := some 5
    silenceTimer := some 5
    target := some 0x10102F#24 }

/-- Cell 0 in a state. -/
def cellIn (state : CellState) (s : State) : State := setCell 0 (cellRec state) s

/-- Subscriber 1's identity. -/
def sid1 : Sid := 0x100000000000001F#64

/-- A key under epoch 0 in port. -/
def keyHome : Key := ⟨255, none, 0, 0, none⟩

/-- An open accumulator. -/
def openAcc (key : Key) : Accumulator := Accumulator.opened key ⟨4000, 1024, 0, 1000⟩ 0 0 false

/-- A context in use at cell 0, a limited quota of 100 µc. -/
def subscriber (state : CtxState) : Context where
  state := state
  sid := sid1
  homeGroup := 0
  cell := 0
  orphan := some 5
  restrictions := ⟨false, false, false⟩
  registration := .queued 1 .attach
  partner := some 3
  jurisdiction := some 101
  feeZone := none
  quota := ⟨100, false, 100, 1000, false, 0⟩
  accumulator := some (openAcc keyHome)
  held := none
  leaving := if state = .leaving then some ⟨.serviceOff, false⟩ else none

/-- Context 0 in use. -/
def holding (x : Context) (s : State) : State := setContext 0 x s

/-- An outstanding entry of context 0 on link 0. -/
def sentEntry (abandoned : Bool) : Outstanding := ⟨0, 0, 0, 101, 40, 0, 5, abandoned⟩

/-- A ticket. -/
def ticket0 : Ticket := ticketOf 0 (subscriber .active) (openAcc keyHome) .host home

/-- Two epochs held, the newer with a cut state and cell 0 pending while it waits. -/
def ring2 (cut : CutState) : List Epoch :=
  [Epoch.first 255, { Epoch.first 0 with number := 1, reason := .zone, cut := cut, pendingSet := [0], cutTimer := some 5 }]

/-- A zone table staged: default zone 2, zones 0 and 2. -/
def zoneBytes : List Byte :=
  be 1 2 ++ be 1 2 ++ be 1 0 ++ zonePort.bytes ++ be 1 2 ++ zoneSea.bytes

/-- An open load of that table, whole. -/
def loading : State :=
  let cells : List Host.Cell := Staging.chunk 0 zoneBytes
  { home with ctp := { home.ctp with load := some ⟨.zone, cells.length, Staging.sum cells, cells⟩ } }


/-! ### Well-formedness: one ill-formed command per check, each refused -/

theorem test_wf_refuses_wide_operands :
    ([.fix 256 0 0 2 0, .fix 0 2147483648 0 2 0, .fix 0 0 0 256 0,
      .fix 0 0 0 2 4294967296, .zoneForce 0 256, .zoneRelease 256, .zoneQuery 0 (some 256), .linkEnable 0 256 1,
      .linkEnable 0 0 256, .linkDisable 0 256, .linkSet 0 0 65536 0, .linkSet 0 0 0 256, .linkQuery 0 256,
      .cellDisable 0 256, .cellEnable 0 256, .cellQuery 0 0 256, .lampSet 0 256, .subRelease 0 65536, .subQuery 0 65536,
      .subFind 256 sid1, .subReregister 0 65536, .quotaGrant 0 0 256 0, .quotaGrant 0 0 0 (2 ^ 64), .quotaAttentionRead 256,
      .ticketRead 0 256, .ticketRelease 0 4294967296, .settingsSet 0 0 4294967296, .settingsGet 0 256,
      .timeSet 0 4294967296, .condClear 256 0, .condMask 256 0, .statusRead 0 256, .identify 256, .unlock 256 0, .lock 256,
      .codeSet 256 0, .loadBegin 0 256 0 0, .loadBegin 0 0 65536 0, .loadData 0 65536 [1], .loadCommit 256,
      .storeSave 256, .restart 256] : List Instr).all (fun i => !i.wf) = true := by decide

theorem test_wf_refuses_long_control_bytes : (Instr.controlFrame (List.replicate 1033 0#8)).wf = false := by
  decide +kernel

theorem test_wf_refuses_invalid_frames :
    ([.status 0 2 0 0 0, .echo 0 65536, .carried 256, .released 256, .terminalFrameInvalid [1, 4, 0, 0], .join 256 0,
      .heartbeat 0 2 0 0, .heartbeat 0 0 2 0, .deckFrameInvalid [0, 13, 0, 0], .activity 0 [], .retuned 0 0xABCDEF#24,
      .silenced 256, .attach 0 0xA00000000000000F#64, .detach 0 0 0, .regAns 0 0 2 0, .usageEnd 0 256, .usage 0 0 [],
      .usage 0 0 [⟨0, 4294967296, 0⟩]] : List Instr).all (fun i => !i.wf) = true := by decide

theorem test_wf_refuses_absent_owners :
    ([.carryTimeout 6, .drainTimerExpiry 6, .holdOffExpiry 6, .heartbeatTimerExpiry 24, .idleTimerExpiry 24,
      .deepTimerExpiry 24, .retuneTimerExpiry 24, .silenceTimerExpiry 24, .graceDeadline 2048, .intervalDeadline 2048,
      .regTimeoutDeadline 65536, .cutTimerExpiry 256, .epochOpen .powerOn, .epochOpen .restart] : List Instr).all
      (fun i => !i.wf) = true := by decide

/-! ### The manual's worked examples -/

/-- The CRC of R181 (polynomial 0x1021, initial value 0xFFFF, nothing reflected) on the digits 1 to 9; 0x29B1 is that CRC's
published check value. -/
theorem test_crc_check_value : crc16 [0x31, 0x32, 0x33, 0x34, 0x35, 0x36, 0x37, 0x38, 0x39] = 0x29B1#16 := by
  decide +kernel

/-- The zones of section 1.9. -/
def crossing : State :=
  { home with
    pzu :=
      { home.pzu with
        table :=
          some
            ⟨2,
              [(0, zonePort),
                (1, ⟨.territorial, 101, 8, true, ⟨false, true, true⟩, some 0x10102F#24,
                  [⟨5380000, 5440000, 990000, 1200000⟩]⟩),
                (2, ⟨.international, 900, 0, true, ⟨false, false, true⟩, some 0x90001F#24,
                  [⟨5000000, 5800000, 500000, 2500000⟩]⟩),
                (3, ⟨.territorial, 303, 8, false, ⟨false, false, true⟩, some 0x30301F#24,
                  [⟨5420000, 5480000, 1350000, 1450000⟩]⟩),
                (4, ⟨.territorial, 202, 8, true, ⟨false, true, true⟩, some 0x20201F#24,
                  [⟨5430000, 5500000, 1440000, 1700000⟩]⟩)]⟩ } }

/-- Section 1.9, fixes 1, 2, 8 and 14: the zone named, and whether two zones tied for it. -/
theorem test_crossing_named :
    [crossing.matched 5405000 1010000, crossing.matched 5412000 1030000, crossing.matched 5445000 1210000,
      crossing.matched 5465000 1445000] = [(0, false), (1, false), (2, false), (3, true)] := by decide

/-- Section 1.9, fix 7: the third fix in zone 1 changes the zone. -/
theorem test_crossing_confirmed :
    (match exec (.fix 9 5425000 1078000 2 77)
        { crossing with pzu := { crossing.pzu with candidate := some 1, confirmCount := 2 } } with
      | .next t => (t.pzu.current, t.pzu.candidate, t.pzu.confirmCount, t.ctp.conditions.getLsbD 0)
      | _ => (9, none, 9, false)) = (1, none, 0, true) := by decide

/-- Section 2.12: the scores of links 0, 1 and 2 at 600 s, and of link 1 at 1,502 s. -/
theorem test_departure_scores :
    ([(20, 80, 40), (10, 70, 35), (0, 65, 620), (10, 22, 35)].map fun (bonus, quality, latency) =>
        Link.score { Link.start ⟨true, .satellite, 800, bonus⟩ with last := some ⟨true, quality, latency, 300⟩ })
      = [100, 80, 59, 32] := by decide

/-- Cells SERVING with their demands, a pool and a pointer. -/
def sharing (pool pointer : Nat) (demands : List (CellId × Nat)) : State :=
  demands.foldl (fun s d => setCell d.1 { Cell.start false with state := .serving, demand := d.2 } s)
    { home with cap := { home.cap with pool := pool, pointer := pointer } }

/-- Section 3.9: leftover units and the pointer. -/
theorem test_leftover_units :
    (let t := recompute (sharing 101 5 [(0, 50), (3, 10), (5, 30), (7, 40)]);
      ([(0 : CellId), 3, 5, 7].map (fun c => (t.cell c).grant), t.cap.pointer)) = ([30, 10, 30, 31], 8) := by decide

/-- Section 3.9: the swap to satellite, at 1,504.9 s. -/
theorem test_satellite_grants :
    (let t := recompute (sharing 116 0 [(1, 80), (2, 20), (4, 45), (6, 60), (9, 5), (12, 40)]);
      ([(1 : CellId), 2, 4, 6, 9, 12].map (fun c => (t.cell c).grant), t.cap.pointer))
      = ([23, 20, 23, 23, 5, 22], 7) := by decide

/-- Section 9.11: context 80's three entries and its settlement. -/
theorem test_rating_to_ticket :
    (let a := Accumulator.opened ⟨4, some 44, 2, 3, some .satellite⟩ ⟨2333, 65536, 150000, 1250⟩ 44 0 false;
      let b := ((a.priced 4000 6000 150000).priced 50000 950000 0).priced 100000 2000000 0;
      let c := b.settled;
      ([b.blocks, b.charge, b.resBytes, b.resThousandths, b.settlement], [c.up, c.down, c.blocks, c.charge]))
      = ([47, 287063, 29808, 750, 2917], [154000, 2956000, 48, 289980]) := by decide

/-- Section 9.11, at the limits: the charge saturates. -/
theorem test_rating_saturates :
    (let a := { openAcc keyHome with values := ⟨1000000, 1024, 0, 4000⟩, resBytes := 1023, resThousandths := 999 };
      let b := a.priced 4294967295 4294967295 0;
      [a.newBlocks 4294967295 4294967295, b.resBytes, a.thousandths 4294967295 4294967295, b.resThousandths])
      = [8388608, 1021, 33554432000000999, 999] := by decide

/-- Section 9.11, the exhaustion of context 81: balance and overrun after the second entry. -/
theorem test_exhaustion :
    (let q := (Quota.debited ⟨99587, false, 100, 1000000, true, 0⟩ 160394);
      (q.balance, q.overrun)) = (0, 60807) := by decide

/-- Section 6.11: the home groups of SIDs A, B and C. -/
theorem test_home_groups :
    (let s : State :=
        { home with
          sbt :=
            { home.sbt with
              patterns :=
                some
                  [⟨0x234150000000000F#64, 0x7C00#16, 3⟩, ⟨0x234000000000000F#64, 0x7000#16, 5⟩,
                    ⟨0x262000000000000F#64, 0x7000#16, 7⟩] } };
      [s.homeGroup 0x234150000000123F#64, s.homeGroup 0x234990000000456F#64, s.homeGroup 0x310260000000789F#64])
      = [3, 5, 15] := by decide

/-- R182: two filler bytes clock out the first two bytes of a CONDITIONS notice, the frame goes on from its third byte, and the
fill byte 0x00 follows the last. -/
theorem test_clock_out :
    let f : OutFrame := ⟨.notice, 0, 1, []⟩
    let s := { home with ctp := { home.ctp with outbound := [f] } }
    let t := clockByte (clockByte s 0xFF#8) 0xFF#8
    t.ports.control = [0xC3#8, 0x00#8] ∧ t.ctp.sent = 2 ∧ t.attn = true
      ∧ (s.clocked 8).ctp.outbound = [] ∧ (s.clocked 9).ports.control = f.bytes ++ [0x00#8] := by decide +kernel

/-! ### Hypotheses met: for every obligation with hypotheses, states and operands that meet those of each clause -/

theorem test_hyps_IdleTick :
    (∃ s ∈ [home], s.pending = []) := by decide

theorem test_hyps_AttachedCountsStayTrue :
    ∃ s ∈ [holding (subscriber .active) (setCell 0 { cellRec .serving with attached := 1 } home)], AttachedLaw s := by decide

theorem test_hyps_QuotasStayTrue :
    ∃ s ∈ [holding (subscriber .active) (cellIn .serving home)], QuotaLaw s := by decide

theorem test_hyps_RingStaysOrdered :
    ∃ s ∈ [{ home with epc := { home.epc with ring := ring2 .waiting } }], RingLaw s := by decide

theorem test_hyps_LinksStaySingle :
    ∃ s ∈ [setLink 1 (linkRec .carrying) (linkIn .engaging home)], LinkLaw s := by decide

theorem test_hyps_ControlFrameCarriesRequest :
    (∃ s ∈ [{ home with mail := { home.mail with restart := [.epc, .cap, .duc, .sbt, .rge, .rte, .tkq] } }], 1 < 256 ∧ 0x6D < 256
      ∧ (s.ctp.receiver = .hunting ∧ ([] : List Byte).length ≤ 1024 ∧ s.firstWaiting = none
      ∧ (s.clocked (8 + ([] : List Byte).length)).ctp.inbound.length < 4 ∧ bodyFits 0x6D ([] : List Byte) = true))
    ∧ (∃ s ∈ [{ home with mail := { home.mail with restart := [.epc, .cap, .duc, .sbt, .rge, .rte, .tkq] } }], 1 < 256 ∧ 0x6D < 256
      ∧ (s.ctp.receiver = .hunting ∧ ([] : List Byte).length ≤ 1024
      ∧ (s.restarting = true ∨ (s.firstWaiting).any (fun w => bodyFits w.code w.body) = true)
      ∧ (s.clocked (8 + ([] : List Byte).length)).ctp.inbound.length < 4))
    ∧ (∃ s ∈ [home], 1 < 256 ∧ 0x6D < 256 ∧ (s.ctp.receiver = .hunting ∧ ([1#8]).length ≤ 1024 ∧ s.firstWaiting = none
      ∧ (s.clocked (8 + ([1#8]).length)).ctp.inbound.length < 4 ∧ bodyFits 0x6D ([1#8]) = false ∧ s.restarting = false))
    ∧ (∃ s ∈ [{ home with ctp := { home.ctp with inbound := List.replicate 4 ⟨1, 0x6D, [], true⟩ } }], 1 < 256 ∧ 0x6D < 256
      ∧ (s.ctp.receiver = .hunting ∧ ([] : List Byte).length ≤ 1024
      ∧ (s.restarting = true ∨ (s.firstWaiting).all (fun w => bodyFits w.code w.body) = true)
      ∧ 4 ≤ (s.clocked (8 + ([] : List Byte).length)).ctp.inbound.length
      ∧ (s.clocked (8 + ([] : List Byte).length)).sharedFrames < 12))
    ∧ (∃ s ∈ [{ home with mail := { home.mail with restart := [.rte] }, ctp := { home.ctp with inbound := [⟨1, 0x6D, [1#8], false⟩] } }],
      1 < 256 ∧ 0x6D < 256 ∧ (s.mail.restart = [Block.rte]
      ∧ s.ctp.inbound = ([] : List InEntry) ++ [⟨1, 0x6D, ([1#8]), false⟩] ∧ ([] : List InEntry).all InEntry.answered = true
      ∧ bodyFits 0x6D ([1#8]) = false))
    ∧ (∃ s ∈ [{ home with ctp := { home.ctp with inbound := List.replicate 4 ⟨1, 0x6D, [], true⟩, outbound := List.replicate 13 ⟨.notice, 0, 1, []⟩ } }],
      1 < 256 ∧ 0x6D < 256 ∧ (s.ctp.receiver = .hunting ∧ ([] : List Byte).length ≤ 1024
      ∧ (s.restarting = true ∨ (s.firstWaiting).all (fun w => bodyFits w.code w.body) = true)
      ∧ 4 ≤ (s.clocked (8 + ([] : List Byte).length)).ctp.inbound.length
      ∧ 12 ≤ (s.clocked (8 + ([] : List Byte).length)).sharedFrames)) := by
  refine ⟨?_, ?_, ?_, ?_, ?_, ?_⟩ <;> decide +kernel

theorem test_hyps_ControlFramesDiscarded :
    (∃ s ∈ [home], 1 < 256 ∧ 0x6D < 256 ∧ ([] : List Byte).length ≤ 1024 ∧ (s.ctp.receiver = .hunting ∧ s.firstWaiting = none
      ∧ (0#16) ≠ crc16 (be 2 ([] : List Byte).length ++ be 1 1 ++ be 1 1 ++ be 1 0x6D ++ ([] : List Byte))))
    ∧ (∃ s ∈ [home], 1 < 256 ∧ 0x6D < 256 ∧ ([] : List Byte).length ≤ 1024 ∧ (s.ctp.receiver = .hunting ∧ s.firstWaiting = none
      ∧ 2 ≠ 1 ∧ 2 < 256))
    ∧ (∃ s ∈ [home], 1 < 256 ∧ 0x6D < 256 ∧ ([] : List Byte).length ≤ 1024 ∧ (s.ctp.receiver = .hunting ∧ s.firstWaiting = none
      ∧ 1024 < 256 * (255#8).toNat + (0#8).toNat))
    ∧ (∃ s ∈ [home], 1 < 256 ∧ 0x6D < 256 ∧ ([] : List Byte).length ≤ 1024 ∧ (s.ctp.receiver = .hunting ∧ s.firstWaiting = none
      ∧ (∀ b ∈ (([0xC2#8] : List Byte)), b ≠ 0xC3#8)))
    ∧ (∃ s ∈ [{ home with shipTime := 60, ctp := { home.ctp with receiver := .inside [0#8] 9 } }],
      1 < 256 ∧ 0x6D < 256 ∧ ([] : List Byte).length ≤ 1024 ∧ s.ctp.receiver = .inside [0#8] 9 ∧ 9 + 50 < s.shipTime
        ∧ (0#8 : Byte) ≠ 0xC3#8 ∧ s.firstWaiting = none) := by
  refine ⟨?_, ?_, ?_, ?_, ?_⟩ <;> decide +kernel

theorem test_hyps_FramesLeaveAndNoticesForm :
    (∃ s ∈ [home], s.ctp.outbound = [])
    ∧ (∃ s ∈ [home], s.ctp.receiver = .hunting ∧ s.firstWaiting = none ∧ (0#8) ≠ 0xC3#8 ∧ s.ctp.outbound = [])
    ∧ (∃ s ∈ [home], (s.ctp.noticePending = false ∨ 12 ≤ s.sharedFrames))
    ∧ (∃ s ∈ [{ home with ctp := { home.ctp with outbound := [⟨.notice, 0, 1, []⟩], noticePending := true } }],
      ∃ f ∈ s.ctp.outbound.head?, s.ctp.sent < f.bytes.length)
    ∧ (∃ s ∈ [{ home with ctp := { home.ctp with outbound := [⟨.notice, 0, 1, []⟩], noticePending := true } }],
      s.ctp.receiver = .hunting ∧ s.firstWaiting = none ∧ (0#8) ≠ 0xC3#8
      ∧ ∃ f ∈ s.ctp.outbound.head?, s.ctp.sent + 1 < f.bytes.length)
    ∧ (∃ s ∈ [{ home with ctp := { home.ctp with outbound := [⟨.notice, 0, 1, []⟩], noticePending := true } }],
      s.ctp.noticePending = true ∧ s.sharedFrames < 12)
    ∧ (∃ s ∈ [{ home with ctp := { home.ctp with outbound := [⟨.notice, 0, 1, []⟩], sent := 7 } }], s.ctp.receiver = .hunting
      ∧ s.firstWaiting = none ∧ (0#8) ≠ 0xC3#8 ∧ ∃ f ∈ s.ctp.outbound.head?, s.ctp.sent + 1 = f.bytes.length) := by
  refine ⟨?_, ?_, ?_, ?_, ?_, ?_, ?_⟩ <;> decide

theorem test_hyps_ProtectedRequestsRefusedWhileLocked :
    (∃ s ∈ [{ home with ctp := { home.ctp with locked := true } }],
      (Instr.restart 1).asRequest = some (1, 0x6E, ([] : List Byte)) ∧ 1 < 256 ∧ isProtected 0x6E = true
      ∧ s.ctp.locked = true ∧ s.firstWaiting = none ∧ s.restarting = false ∧ s.ctp.inbound.length < 4) := by decide

theorem test_hyps_FullQueueAnswersBusy :
    (∃ s ∈ [{ home with ctp := { home.ctp with inbound := List.replicate 4 ⟨1, 0x6D, [], true⟩ } }],
      (Instr.identify 1).asRequest = some (1, 0x6D, ([] : List Byte)) ∧ 1 < 256 ∧ 4 ≤ s.ctp.inbound.length
      ∧ s.firstWaiting ≠ some ⟨1, 0x6D, ([] : List Byte), false⟩ ∧ s.sharedFrames < 12)
    ∧ (∃ s ∈ [{ home with ctp := { home.ctp with inbound := List.replicate 4 ⟨1, 0x6D, [], true⟩, outbound := List.replicate 12 ⟨.notice, 0, 1, []⟩ } }],
      (Instr.identify 1).asRequest = some (1, 0x6D, ([] : List Byte)) ∧ 1 < 256 ∧ 4 ≤ s.ctp.inbound.length
      ∧ s.firstWaiting ≠ some ⟨1, 0x6D, ([] : List Byte), false⟩ ∧ 12 ≤ s.sharedFrames) := by
  refine ⟨?_, ?_⟩ <;> decide

theorem test_hyps_QueuedRequestTakenAlike :
    (∃ s ∈ [{ home with mail := { home.mail with restart := [.rte] }, ctp := { home.ctp with inbound := [⟨1, 0x6D, [], false⟩] } }],
      (Instr.identify 1).asRequest = some (1, 0x6D, ([] : List Byte)) ∧ 1 < 256
      ∧ (s.firstWaiting = some ⟨1, 0x6D, ([] : List Byte), false⟩ ∧ s.restarting = true))
    ∧ (∃ s ∈ [{ home with mail := { home.mail with restart := [.rte] }, ctp := { home.ctp with inbound := [⟨1, 0x6D, [], false⟩] } }],
      (Instr.identify 1).asRequest = some (1, 0x6D, ([] : List Byte)) ∧ 1 < 256 ∧ (s.mail.restart = [Block.rte]
      ∧ s.ctp.inbound = ([] : List InEntry) ++ [⟨1, 0x6D, ([] : List Byte), false⟩]
      ∧ ([] : List InEntry).all InEntry.answered = true ∧ bodyFits 0x6D ([] : List Byte) = true))
    ∧ (∃ s ∈ [home], (Instr.identify 1).asRequest = some (1, 0x6D, ([] : List Byte)) ∧ 1 < 256 ∧ (s.firstWaiting = none
      ∧ s.restarting = false ∧ s.ctp.inbound.length < 4))
    ∧ (∃ s ∈ [{ home with mail := { home.mail with restart := [.epc, .cap, .duc, .sbt, .rge, .rte, .tkq] } }],
      (Instr.identify 1).asRequest = some (1, 0x6D, ([] : List Byte)) ∧ 1 < 256 ∧ (s.ctp.inbound.length < 4
      ∧ ((s.firstWaiting = none
      ∧ s.restarting = true) ∨ (s.firstWaiting).any (fun w => w != ⟨1, 0x6D, ([] : List Byte), false⟩) = true))) := by
  refine ⟨?_, ?_, ?_, ?_⟩ <;> decide +kernel

theorem test_hyps_ConditionRequests :
    (∃ s ∈ [home], 1 < 256 ∧ 0 < 4294967296 ∧ 0 < 256 ∧ Ready 0x63 s)
    ∧ (∃ s ∈ [home], 1 < 256 ∧ 0 < 4294967296 ∧ 0 < 256 ∧ Ready 0x64 s)
    ∧ (∃ s ∈ [home], 1 < 256 ∧ 0 < 4294967296 ∧ 0 < 256 ∧ Ready 0x62 s)
    ∧ (∃ s ∈ [home], 1 < 256 ∧ 0 < 4294967296 ∧ 0 < 256 ∧ Ready 0x23 s) := by
  refine ⟨?_, ?_, ?_, ?_⟩ <;> decide

theorem test_hyps_OperatorCode :
    (∃ s ∈ [home], 1 < 256 ∧ Ready 0x68 s)
    ∧ (∃ s ∈ [home], 1 < 256 ∧ (Ready 0x66 s ∧ s.ctp.lockoutTimer = none ∧ s.ctp.code = none))
    ∧ (∃ s ∈ [home], 1 < 256 ∧ Ready 0x67 s)
    ∧ (∃ s ∈ [{ home with ctp := { home.ctp with code := some 5#64 } }], 1 < 256 ∧ (Ready 0x66 s ∧ s.ctp.lockoutTimer = none
      ∧ s.ctp.code = some (5#64)))
    ∧ (∃ s ∈ [{ home with ctp := { home.ctp with code := some 5#64 } }], 1 < 256 ∧ (Ready 0x66 s ∧ s.ctp.lockoutTimer = none
      ∧ s.ctp.code.isSome = true ∧ s.ctp.code ≠ some (6#64) ∧ s.ctp.mismatches ≤ 1))
    ∧ (∃ s ∈ [{ home with ctp := { home.ctp with code := some 5#64, mismatches := 2 } }], 1 < 256 ∧ (Ready 0x66 s
      ∧ s.ctp.lockoutTimer = none ∧ s.ctp.code.isSome = true ∧ s.ctp.code ≠ some (6#64) ∧ 2 ≤ s.ctp.mismatches))
    ∧ (∃ s ∈ [{ home with ctp := { home.ctp with code := some 5#64, mismatches := 3, lockoutTimer := some 5 } }], 1 < 256
      ∧ (Ready 0x66 s ∧ s.ctp.lockoutTimer.isSome = true)) := by
  refine ⟨?_, ?_, ?_, ?_, ?_, ?_, ?_⟩ <;> decide

theorem test_hyps_StagedLoad :
    (∃ s ∈ [home], 1 < 256 ∧ 0 < 256 ∧ 1 < 65536 ∧ 0 < 4294967296 ∧ 0 < 65536 ∧ ([] : List Byte).length ≤ 1022 ∧ Ready 0x69 s)
    ∧ (∃ s ∈ [home], 1 < 256 ∧ 0 < 256 ∧ 1 < 65536 ∧ 0 < 4294967296 ∧ 0 < 65536 ∧ ([] : List Byte).length ≤ 1022 ∧ Ready 0x6A s) := by
  refine ⟨?_, ?_⟩ <;> decide

theorem test_hyps_LoadCommitOutcomes :
    (∃ s ∈ [home], 1 < 256 ∧ Ready 0x6B s ∧ s.ctp.load = none)
    ∧ (∃ s ∈ [{ home with ctp := { home.ctp with load := some ⟨.tariff, 2, 0, [(0, 1#8)]⟩ } }], 1 < 256 ∧ Ready 0x6B s
      ∧ (∃ l ∈ s.ctp.load, (¬(l.cells.length = l.total ∧ Staging.sum l.cells = l.checksum))))
    ∧ (∃ s ∈ [{ home with ctp := { home.ctp with load := some ⟨.homeGroup, 1, 0, [(0, 0#8)]⟩ } }], 1 < 256 ∧ Ready 0x6B s
      ∧ (∃ l ∈ s.ctp.load, l.cells.length = l.total ∧ Staging.sum l.cells = l.checksum)) := by
  refine ⟨?_, ?_, ?_⟩ <;> decide

theorem test_hyps_ZoneTableCommit :
    (∃ s ∈ [loading], 1 < 256 ∧ Ready 0x6B s
      ∧ s.ctp.load = some ({ kind := .zone, total := zoneBytes.length, checksum := Staging.sum (Staging.chunk 0 zoneBytes), cells := Staging.chunk 0 zoneBytes : Load })
      ∧ ({ kind := .zone, total := zoneBytes.length, checksum := Staging.sum (Staging.chunk 0 zoneBytes), cells := Staging.chunk 0 zoneBytes : Load }).cells.length = ({ kind := .zone, total := zoneBytes.length, checksum := Staging.sum (Staging.chunk 0 zoneBytes), cells := Staging.chunk 0 zoneBytes : Load }).total
      ∧ Staging.sum ({ kind := .zone, total := zoneBytes.length, checksum := Staging.sum (Staging.chunk 0 zoneBytes), cells := Staging.chunk 0 zoneBytes : Load }).cells = ({ kind := .zone, total := zoneBytes.length, checksum := Staging.sum (Staging.chunk 0 zoneBytes), cells := Staging.chunk 0 zoneBytes : Load }).checksum
      ∧ ({ kind := .zone, total := zoneBytes.length, checksum := Staging.sum (Staging.chunk 0 zoneBytes), cells := Staging.chunk 0 zoneBytes : Load }).kind = .zone
      ∧ zoneTableOf (({ kind := .zone, total := zoneBytes.length, checksum := Staging.sum (Staging.chunk 0 zoneBytes), cells := Staging.chunk 0 zoneBytes : Load }).cells.map Prod.snd) = some ⟨2, [(0, zonePort), (2, zoneSea)]⟩) := by decide

theorem test_hyps_Settings :
    (∃ s ∈ [home], 1 < 256 ∧ 9 < 256 ∧ 9 < 4294967296 ∧ Ready 0x61 s)
    ∧ (∃ s ∈ [home], 1 < 256 ∧ 9 < 256 ∧ 9 < 4294967296 ∧ Ready 0x60 s) := by
  refine ⟨?_, ?_⟩ <;> decide

theorem test_hyps_ReserveSetting :
    (∃ s ∈ [cellIn .serving home], 1 < 256 ∧ 64 < 4294967296 ∧ s.cap.pool = s.cap.carried - s.settings.reserve ∧ Ready 0x61 s)
    ∧ (∃ s ∈ [cellIn .serving home], 1 < 256 ∧ 64 < 4294967296 ∧ s.cap.pool = s.cap.carried - s.settings.reserve ∧ Ready 0x60 s)
    ∧ (∃ s ∈ [cellIn .serving home], 1 < 256 ∧ 64 < 4294967296 ∧ s.cap.pool = s.cap.carried - s.settings.reserve
      ∧ s.cap.carried ≤ (max 1 (min 64 64)))
    ∧ (∃ s ∈ [cellIn .serving home], 1 < 256 ∧ 64 < 4294967296 ∧ s.cap.pool = s.cap.carried - s.settings.reserve ∧ (s.cap.pool = 0
      ∧ (s.cell 0).state = .serving)) := by
  refine ⟨?_, ?_, ?_, ?_⟩ <;> decide

theorem test_hyps_ConfigurationStore :
    (∃ s ∈ [home], 1 < 256 ∧ Ready 0x6C s) := by decide

theorem test_hyps_HardwareResets :
    (∃ s ∈ [{ home with cfs := ⟨.ok, some (home.snapshot), none⟩ }], s.cfs.state ≠ .busy ∧ ∃ c ∈ s.cfs.copy, True)
    ∧ (∃ s ∈ [{ home with cfs := ⟨.ok, some (home.snapshot), none⟩ }], s.cfs.state ≠ .busy ∧ ∃ c ∈ s.cfs.copy, True)
    ∧ (∃ s ∈ [home], (s.cfs.state = .busy ∨ s.cfs.copy = none)) := by
  refine ⟨?_, ?_, ?_⟩ <;> decide

theorem test_hyps_Fixes :
    (∃ s ∈ [home], 1 < 256 ∧ 0 < 256 ∧ 0 < 4294967296 ∧ Ready 0x01 s ∧ (-9000000 ≤ (5405000 : Int) ∧ (5405000 : Int) ≤ 9000000
      ∧ -18000000 ≤ (1010000 : Int) ∧ (1010000 : Int) ≤ 18000000 ∧ 0 = 0))
    ∧ (∃ s ∈ [home], 1 < 256 ∧ 0 < 256 ∧ 0 < 4294967296 ∧ Ready 0x01 s ∧ (s.pzu.forced = none ∧ -9000000 ≤ (5405000 : Int)
      ∧ (5405000 : Int) ≤ 9000000 ∧ -18000000 ≤ (1010000 : Int) ∧ (1010000 : Int) ≤ 18000000
      ∧ (s.matched (5405000 : Int) (1010000 : Int)).1 = s.pzu.current))
    ∧ (∃ s ∈ [home], 1 < 256 ∧ 1 < 256 ∧ 0 < 4294967296 ∧ Ready 0x01 s ∧ (-9000000 ≤ (0 : Int) ∧ (0 : Int) ≤ 9000000
      ∧ -18000000 ≤ (1010000 : Int) ∧ (1010000 : Int) ≤ 18000000 ∧ (1 = 1 ∨ (1 = 2 ∧ s.pzu.forced.isSome = true))))
    ∧ (∃ s ∈ [home], 1 < 256 ∧ 1 < 256 ∧ 0 < 4294967296 ∧ Ready 0x01 s ∧ (s.pzu.forced = none ∧ -9000000 ≤ (0 : Int)
      ∧ (0 : Int) ≤ 9000000 ∧ -18000000 ≤ (1010000 : Int) ∧ (1010000 : Int) ≤ 18000000
      ∧ (s.matched (0 : Int) (1010000 : Int)).1 ≠ s.pzu.current
      ∧ (if s.pzu.candidate = some (s.matched (0 : Int) (1010000 : Int)).1 then s.pzu.confirmCount + 1 else 1) < s.settings.confirmThreshold))
    ∧ (∃ s ∈ [{ home with pzu := { home.pzu with candidate := some 2, confirmCount := 2 } }], 1 < 256 ∧ 3 < 256 ∧ 0 < 4294967296
      ∧ Ready 0x01 s ∧ (¬(-9000000 ≤ (0 : Int) ∧ (0 : Int) ≤ 9000000 ∧ -18000000 ≤ (1010000 : Int)
      ∧ (1010000 : Int) ≤ 18000000 ∧ 3 ≤ 2)))
    ∧ (∃ s ∈ [{ home with pzu := { home.pzu with candidate := some 2, confirmCount := 2 } }], 1 < 256 ∧ 3 < 256 ∧ 0 < 4294967296
      ∧ Ready 0x01 s ∧ (s.pzu.forced = none ∧ -9000000 ≤ (0 : Int) ∧ (0 : Int) ≤ 9000000 ∧ -18000000 ≤ (1010000 : Int)
      ∧ (1010000 : Int) ≤ 18000000 ∧ (s.matched (0 : Int) (1010000 : Int)).1 ≠ s.pzu.current
      ∧ s.settings.confirmThreshold ≤ (if s.pzu.candidate = some (s.matched (0 : Int) (1010000 : Int)).1 then s.pzu.confirmCount + 1 else 1))) := by
  refine ⟨?_, ?_, ?_, ?_, ?_, ?_⟩ <;> decide

theorem test_hyps_ForcedZonesAndStalePosition :
    (∃ s ∈ [home], 1 < 256 ∧ 0 < 256 ∧ (Ready 0x02 s ∧ (s.zoneRecord 0).isSome = true ∧ 0 = s.pzu.current))
    ∧ (∃ s ∈ [home], 1 < 256 ∧ 0 < 256 ∧ Ready 0x03 s)
    ∧ (∃ s ∈ [home], 1 < 256 ∧ 2 < 256 ∧ (Ready 0x02 s ∧ ∃ z ∈ s.zoneRecord 2, 2 ≠ s.pzu.current))
    ∧ (∃ s ∈ [home], 1 < 256 ∧ 5 < 256 ∧ (Ready 0x02 s ∧ s.zoneRecord 5 = none)) := by
  refine ⟨?_, ?_, ?_, ?_⟩ <;> decide

theorem test_hyps_LinkRequests :
    (∃ s ∈ [home], 1 < 256 ∧ 6 < 256 ∧ 0 < 256 ∧ 0 < 65536 ∧ 0 < 256 ∧ (Ready 0x10 s ∧ (5 < 6 ∨ 0 = 0 ∨ 3 < 0)))
    ∧ (∃ s ∈ [home], 1 < 256 ∧ 6 < 256 ∧ 0 < 256 ∧ 0 < 65536 ∧ 0 < 256 ∧ (Ready 0x10 s ∧ (s.link 0).state = .off))
    ∧ (∃ s ∈ [home], 1 < 256 ∧ 6 < 256 ∧ 0 < 256 ∧ 0 < 65536 ∧ 0 < 256 ∧ (Ready 0x11 s ∧ 5 < 6))
    ∧ (∃ s ∈ [home], 1 < 256 ∧ 6 < 256 ∧ 0 < 256 ∧ 0 < 65536 ∧ 0 < 256 ∧ (Ready 0x11 s ∧ (s.link 0).state = .off))
    ∧ (∃ s ∈ [home], 1 < 256 ∧ 6 < 256 ∧ 0 < 256 ∧ 0 < 65536 ∧ 0 < 256 ∧ (Ready 0x12 s ∧ 5 < 6))
    ∧ (∃ s ∈ [home], 1 < 256 ∧ 6 < 256 ∧ 0 < 256 ∧ 0 < 65536 ∧ 0 < 256 ∧ Ready 0x12 s)
    ∧ (∃ s ∈ [linkIn .down home], 1 < 256 ∧ 0 < 256 ∧ 0 < 256 ∧ 0 < 65536 ∧ 0 < 256 ∧ (Ready 0x10 s ∧ (s.link 0).state ≠ .off))
    ∧ (∃ s ∈ [linkIn .down home], 1 < 256 ∧ 0 < 256 ∧ 0 < 256 ∧ 0 < 65536 ∧ 0 < 256 ∧ (Ready 0x11 s ∧ (s.link 0).state ≠ .off
      ∧ (s.link 0).state ≠ .carrying ∧ (s.link 0).state ≠ .draining))
    ∧ (∃ s ∈ [linkIn .carrying home], 1 < 256 ∧ 0 < 256 ∧ 0 < 256 ∧ 0 < 65536 ∧ 0 < 256 ∧ (Ready 0x11 s
      ∧ (s.link 0).state = .carrying))
    ∧ (∃ s ∈ [linkIn .draining home], 1 < 256 ∧ 0 < 256 ∧ 0 < 256 ∧ 0 < 65536 ∧ 0 < 256 ∧ (Ready 0x11 s
      ∧ (s.link 0).state = .draining)) := by
  refine ⟨?_, ?_, ?_, ?_, ?_, ?_, ?_, ?_, ?_, ?_⟩ <;> decide

theorem test_hyps_StatusFrames :
    (∃ s ∈ [home], 0 ≤ 1 ∧ 10 < 256 ∧ 0 < 65536 ∧ 0 < 65536 ∧ (s.link 0).state = .off)
    ∧ (∃ s ∈ [linkIn .down home], 0 ≤ 1 ∧ 10 < 256 ∧ 0 < 65536 ∧ 0 < 65536 ∧ (s.link 0).state = .down ∧ 0 = 0)
    ∧ (∃ s ∈ [linkIn .down home], 1 ≤ 1 ∧ 10 < 256 ∧ 0 < 65536 ∧ 0 < 65536 ∧ (s.link 0).state = .down ∧ 1 = 1)
    ∧ (∃ s ∈ [linkIn .probing home], 0 ≤ 1 ∧ 10 < 256 ∧ 0 < 65536 ∧ 0 < 65536
      ∧ ((s.link 0).state = .probing ∨ (s.link 0).state = .ready ∨ (s.link 0).state = .engaging) ∧ 0 = 0)
    ∧ (∃ s ∈ [linkIn .probing home], 1 ≤ 1 ∧ 10 < 256 ∧ 0 < 65536 ∧ 0 < 65536 ∧ (s.link 0).state = .probing ∧ 1 = 1)
    ∧ (∃ s ∈ [linkIn .ready home], 1 ≤ 1 ∧ 10 < 256 ∧ 0 < 65536 ∧ 0 < 65536 ∧ (s.link 0).state = .ready ∧ 1 = 1
      ∧ 3 ≤ (s.lowRun 0 10))
    ∧ (∃ s ∈ [linkIn .ready home], 1 ≤ 1 ∧ 80 < 256 ∧ 0 < 65536 ∧ 0 < 65536 ∧ (s.link 0).state = .ready ∧ 1 = 1
      ∧ (s.lowRun 0 80) < 3)
    ∧ (∃ s ∈ [linkIn .engaging home], 1 ≤ 1 ∧ 10 < 256 ∧ 0 < 65536 ∧ 0 < 65536 ∧ (s.link 0).state = .engaging ∧ 1 = 1
      ∧ 3 ≤ (s.lowRun 0 10))
    ∧ (∃ s ∈ [linkIn .engaging home], 1 ≤ 1 ∧ 80 < 256 ∧ 0 < 65536 ∧ 0 < 65536
      ∧ ((s.link 0).state = .engaging ∨ (s.link 0).state = .carrying) ∧ 1 = 1 ∧ (s.lowRun 0 80) < 3)
    ∧ (∃ s ∈ [linkIn .carrying home], 0 ≤ 1 ∧ 10 < 256 ∧ 0 < 65536 ∧ 0 < 65536 ∧ (s.link 0).state = .carrying ∧ 0 = 0)
    ∧ (∃ s ∈ [linkIn .carrying home], 1 ≤ 1 ∧ 10 < 256 ∧ 0 < 65536 ∧ 0 < 65536 ∧ (s.link 0).state = .carrying ∧ 1 = 1
      ∧ 3 ≤ (s.lowRun 0 10))
    ∧ (∃ s ∈ [linkIn .draining home], 0 ≤ 1 ∧ 10 < 256 ∧ 0 < 65536 ∧ 0 < 65536
      ∧ ((s.link 0).state = .draining ∨ (s.link 0).state = .fault)) := by
  refine ⟨?_, ?_, ?_, ?_, ?_, ?_, ?_, ?_, ?_, ?_, ?_, ?_⟩ <;> decide

theorem test_hyps_EchoesAndProbes :
    (∃ s ∈ [linkIn .engaging home], 1 < 65536 ∧ (¬((s.link 0).state ≠ .off ∧ (s.link 0).probeOut = true
      ∧ (s.link 0).probeSeq = 1)))
    ∧ (∃ s ∈ [linkIn .engaging home], 1 < 65536 ∧ (s.link 0).state ≠ .off ∧ (s.link 0).probeOut = true)
    ∧ (∃ s ∈ [linkIn .engaging home], 1 < 65536 ∧ (∃ d ∈ s.lkm.probeTimer, (s.link 0).probeOut = true ∧ 2 ≤ (s.link 0).misses
      ∧ ((s.link 0).state = .engaging ∨ (s.link 0).state = .carrying)))
    ∧ (∃ s ∈ [linkIn .engaging home], 1 < 65536 ∧ (∃ d ∈ s.lkm.probeTimer, (s.link 0).state.probed = true
      ∧ (s.link 0).state ≠ .carrying))
    ∧ (∃ s ∈ [linkIn .engaging home], 1 < 65536
      ∧ (∃ d ∈ s.lkm.probeTimer, (∀ m : LinkId, (s.link m).state = .carrying ∨ (s.link m).state = .draining → ¬((s.link m).probeOut = true
      ∧ 2 ≤ (s.link m).misses))))
    ∧ (∃ s ∈ [home], 0 < 65536 ∧ (∃ d ∈ s.lkm.probeTimer, (s.link 0).probeOut = false ∧ (s.link 0).state = .off))
    ∧ (∃ s ∈ [home], 0 < 65536 ∧ (∃ d ∈ s.lkm.probeTimer, (s.link 0).state.probed = false))
    ∧ (∃ s ∈ [{ home with cap := { home.cap with regrantTimer := none }, lkm := { home.lkm with probeTimer := none }, pzu := { home.pzu with staleTimer := none } }],
      0 < 65536 ∧ s.lkm.probeTimer = none)
    ∧ (∃ s ∈ [setLink 0 { linkRec .down with probeOut := false } home], 0 < 65536
      ∧ (∃ d ∈ s.lkm.probeTimer, (s.link 0).probeOut = false ∧ (s.link 0).state.probed = false ∧ (s.link 0).state ≠ .off))
    ∧ (∃ s ∈ [setLink 0 { linkRec .ready with probeOut := false } home], 0 < 65536
      ∧ (∃ d ∈ s.lkm.probeTimer, (¬((s.link 0).probeOut = true ∧ 2 ≤ (s.link 0).misses)) ∧ (s.link 0).state.probed = true))
    ∧ (∃ s ∈ [linkIn .down home],
      0 < 65536 ∧ (∃ d ∈ s.lkm.probeTimer, True) ∧ (s.link 0).state.probed = false
        ∧ ∀ m : LinkId, (s.link m).state = .carrying ∨ (s.link m).state = .draining →
          ¬((s.link m).probeOut = true ∧ 2 ≤ (s.link m).misses))
    ∧ (∃ s ∈ [setLink 0 { linkRec .engaging with probeOut := true, misses := 2 } home],
      0 < 65536 ∧ (∃ d ∈ s.lkm.probeTimer, True) ∧ (s.link 0).probeOut = true ∧ 2 ≤ (s.link 0).misses
        ∧ (s.link 0).state.probed = true ∧ (s.link 0).state = .engaging) := by
  refine ⟨?_, ?_, ?_, ?_, ?_, ?_, ?_, ?_, ?_, ?_, ?_, ?_⟩ <;> decide

theorem test_hyps_SelectionEngagesTheBest :
    (∃ s ∈ [linkIn .engaging home], (∃ l : LinkId, (s.link l).state = .engaging))
    ∧ (∃ s ∈ [linkIn .engaging home],
      (∀ l : LinkId, (s.link l).state = .ready → (s.link l).cfg.enabled = false ∨ s.zone.kinds.has (s.link l).cfg.kind = false))
    ∧ (∃ s ∈ [linkIn .ready home], (∀ l : LinkId, (s.link l).state ≠ .engaging) ∧ (s.link 0).state = .ready
      ∧ (s.link 0).cfg.enabled = true ∧ s.zone.kinds.has (s.link 0).cfg.kind = true
      ∧ (∀ m : LinkId, (s.link m).state = .ready ∧ (s.link m).cfg.enabled = true
      ∧ s.zone.kinds.has (s.link m).cfg.kind = true → (s.link m).score < (s.link 0).score ∨ ((s.link m).score = (s.link 0).score
      ∧ 0 ≤ m)) ∧ s.carryingLink = none)
    ∧ (∃ s ∈ [setLink 1 (linkRec .carrying) (linkIn .ready home)], (∀ l : LinkId, (s.link l).state ≠ .engaging)
      ∧ (s.link 0).state = .ready ∧ (s.link 0).cfg.enabled = true ∧ s.zone.kinds.has (s.link 0).cfg.kind = true
      ∧ (∀ m : LinkId, (s.link m).state = .ready ∧ (s.link m).cfg.enabled = true
      ∧ s.zone.kinds.has (s.link m).cfg.kind = true → (s.link m).score < (s.link 0).score ∨ ((s.link m).score = (s.link 0).score
      ∧ 0 ≤ m)) ∧ ∃ c ∈ s.carryingLink, True) := by
  refine ⟨?_, ?_, ?_, ?_⟩ <;> decide

theorem test_hyps_Engagements :
    (∃ s ∈ [home], (s.link 0).state ≠ .engaging)
    ∧ (∃ s ∈ [home], (s.link 0).carryTimer = none)
    ∧ (∃ s ∈ [home], s.carryingLink = none)
    ∧ (∃ s ∈ [setLink 1 (linkRec .carrying) (linkIn .engaging home)], (s.link 0).state = .engaging ∧ ∃ m ∈ s.carryingLink, True)
    ∧ (∃ s ∈ [setLink 1 (linkRec .carrying) (linkIn .engaging home)], (s.link 0).state = .engaging
      ∧ ∃ d ∈ (s.link 0).carryTimer, True)
    ∧ (∃ s ∈ [setLink 1 (linkRec .carrying) (linkIn .engaging home)], ∃ l ∈ s.carryingLink, True)
    ∧ (∃ s ∈ [linkIn .engaging home], (s.link 0).state = .engaging ∧ s.carryingLink = none) := by
  refine ⟨?_, ?_, ?_, ?_, ?_, ?_, ?_⟩ <;> decide

theorem test_hyps_DrainingAndHoldOff :
    (∃ s ∈ [home], (s.link 0).state ≠ .draining)
    ∧ (∃ s ∈ [home], (s.link 0).drainTimer = none)
    ∧ (∃ s ∈ [home], (s.link 0).holdOffTimer = none)
    ∧ (∃ s ∈ [home], s.lkm.dwellTimer = none)
    ∧ (∃ s ∈ [linkIn .draining home], (s.link 0).state = .draining)
    ∧ (∃ s ∈ [linkIn .draining home], (s.link 0).state = .draining ∧ ∃ d ∈ (s.link 0).drainTimer, True)
    ∧ (∃ s ∈ [linkIn .draining home], ∃ d ∈ s.lkm.dwellTimer, True)
    ∧ (∃ s ∈ [linkIn .fault home], (s.link 0).state = .fault ∧ ∃ d ∈ (s.link 0).holdOffTimer, True) := by
  refine ⟨?_, ?_, ?_, ?_, ?_, ?_, ?_, ?_⟩ <;> decide

theorem test_hyps_ZoneChangeDrainsUnpermittedLinks :
    (∃ s ∈ [home], s.mail.lkm = [])
    ∧ (∃ s ∈ [{ home with mail := { home.mail with sbt := 1, rge := 1, epc := [.zone], lkm := [⟨2, zoneSea⟩], duc := [⟨2, zoneSea⟩], cap := [90] } }],
      ∃ e ∈ s.mail.lkm.head?, (¬((s.link 0).state.ordered = true ∧ e.record.kinds.has (s.link 0).cfg.kind = false)))
    ∧ (∃ s ∈ [setLink 0 { linkRec .carrying with cfg := ⟨true, .satellite, 100, 0⟩ } { home with mail := { home.mail with lkm := [⟨2, zoneSea⟩] } }],
      ∃ e ∈ s.mail.lkm.head?, (s.link 0).state.ordered = true ∧ e.record.kinds.has (s.link 0).cfg.kind = false) := by
  refine ⟨?_, ?_, ?_⟩ <;> decide

theorem test_hyps_FramesNotTaken :
    (23 < 24)
    ∧ (5 < 6)
    ∧ (∃ s ∈ [home], (s.link 0).state = .off)
    ∧ (terminalFrameValid [] = false)
    ∧ (∃ s ∈ [home], (s.cell 0).state.joined = false) := by
  refine ⟨?_, ?_, ?_, ?_, ?_⟩ <;> decide

theorem test_hyps_GrantDivision :
    (∃ s ∈ [cellIn .serving { home with cap := { home.cap with pool := 7, carried := 11 } }],
      ∃ c ∈ allCells, (s.cell c).state ≠ .serving)
    ∧ (∃ s ∈ [cellIn .serving { home with cap := { home.cap with pool := 7, carried := 11 } }],
      s.cap.pool < (s.serving.map fun c => (s.cell c).demand).sum
      ∧ (s.serving.map fun c => min (s.cell c).demand 7).sum ≤ s.cap.pool
      ∧ s.cap.pool < (s.serving.map fun c => min (s.cell c).demand (7 + 1)).sum)
    ∧ (∃ s ∈ [cellIn .serving { home with cap := { home.cap with pool := 96, carried := 100 } }],
      (s.serving.map fun c => (s.cell c).demand).sum ≤ s.cap.pool ∧ ∃ c ∈ allCells, (s.cell c).state = .serving) := by
  refine ⟨?_, ?_, ?_⟩ <;> decide

theorem test_hyps_CapacityAndRegrant :
    (∃ s ∈ [home], s.mail.restart.contains .cap = false)
    ∧ (∃ s ∈ [{ home with mail := { home.mail with restart := [.epc, .cap, .duc, .sbt, .rge, .rte, .tkq] } }],
      s.mail.restart.contains .cap = true ∧ s.NoneMalformed .cap) := by
  refine ⟨?_, ?_⟩ <;> decide

theorem test_hyps_Joining :
    (∃ s ∈ [home], 7 < 4294967296 ∧ (s.holdsJoins = false
      ∧ ((s.cell 0).state = .absent ∨ (s.cell 0).state = .lost ∨ (s.cell 0).state = .silent) ∧ s.zone.service = true))
    ∧ (∃ s ∈ [home], 7 < 4294967296 ∧ (s.holdsJoins = false
      ∧ ((s.cell 0).state = .absent ∨ (s.cell 0).state = .lost ∨ (s.cell 0).state = .silent) ∧ (s.cell 0).state = .absent))
    ∧ (∃ s ∈ [home], 7 < 4294967296 ∧ (s.holdsJoins = false
      ∧ ((s.cell 0).state = .absent ∨ (s.cell 0).state = .lost ∨ (s.cell 0).state = .silent) ∧ ∃ d ∈ allCells, d ≠ 0))
    ∧ (∃ s ∈ [holding (subscriber .active) (cellIn .serving home)], 8 < 4294967296 ∧ (s.holdsJoins = false ∧ 8 ≠ (s.cell 0).serial
      ∧ ((s.cell 0).state = .serving ∨ (s.cell 0).state.dozing = true ∨ (s.cell 0).state = .retuning ∨ (s.cell 0).state = .silencing)
      ∧ GrantLaw s))
    ∧ (∃ s ∈ [holding (subscriber .active) (cellIn .serving home)], 8 < 4294967296 ∧ (s.holdsJoins = false ∧ 8 ≠ (s.cell 0).serial
      ∧ ((s.cell 0).state = .serving ∨ (s.cell 0).state.dozing = true ∨ (s.cell 0).state = .retuning ∨ (s.cell 0).state = .silencing)
      ∧ s.zone.service = true ∧ (s.cell 0).state ≠ .retuning))
    ∧ (∃ s ∈ [holding (subscriber .active) (cellIn .serving home)], 8 < 4294967296 ∧ (s.holdsJoins = false ∧ 8 ≠ (s.cell 0).serial
      ∧ ((s.cell 0).state = .serving ∨ (s.cell 0).state.dozing = true ∨ (s.cell 0).state = .retuning ∨ (s.cell 0).state = .silencing)
      ∧ ContextsInOrder s ∧ ∃ e ∈ s.sbt.contexts, e.2.cell = 0 ∧ e.2.state ≠ .leaving))
    ∧ (∃ s ∈ [sea], 7 < 4294967296 ∧ (s.holdsJoins = false
      ∧ ((s.cell 0).state = .absent ∨ (s.cell 0).state = .lost ∨ (s.cell 0).state = .silent) ∧ s.zone.service = false))
    ∧ (∃ s ∈ [cellIn .serving home], 7 < 4294967296 ∧ (s.holdsJoins = false ∧ (s.cell 0).state = .serving ∧ 7 = (s.cell 0).serial))
    ∧ (∃ s ∈ [cellIn .doze home], 7 < 4294967296 ∧ (s.holdsJoins = false ∧ 7 = (s.cell 0).serial
      ∧ ((s.cell 0).state = .doze ∨ (s.cell 0).state = .deep ∨ (s.cell 0).state = .retuning ∨ (s.cell 0).state = .silencing)))
    ∧ (∃ s ∈ [cellIn .silent home], 7 < 4294967296 ∧ (s.holdsJoins = false
      ∧ ((s.cell 0).state = .absent ∨ (s.cell 0).state = .lost ∨ (s.cell 0).state = .silent) ∧ (s.cell 0).state ≠ .absent))
    ∧ (∃ s ∈ [cellIn .disabled home], 7 < 4294967296 ∧ (s.holdsJoins = false ∧ (s.cell 0).state = .disabled))
    ∧ (∃ s ∈ [holding (subscriber .active) { cellIn .serving home with mail := { home.mail with restart := [.sbt] } }],
      7 < 4294967296 ∧ s.holdsJoins = true)
    ∧ (∃ s ∈ [home, sea],
      7 < 4294967296 ∧ s.holdsJoins = false ∧ (s.cell 0).state = .absent ∧ s.zone.service = true)
    ∧ (∃ s ∈ [home, sea],
      7 < 4294967296 ∧ s.holdsJoins = false ∧ (s.cell 0).state = .absent ∧ s.zone.service = false) := by
  refine ⟨?_, ?_, ?_, ?_, ?_, ?_, ?_, ?_, ?_, ?_, ?_, ?_, ?_, ?_⟩ <;> decide

theorem test_hyps_Heartbeats :
    (∃ s ∈ [home], 0 < 65536 ∧ (0 ≤ 1 ∧ 0 ≤ 1 ∧ ((s.cell 0).state = .absent ∨ (s.cell 0).state = .lost)))
    ∧ (0 < 65536 ∧ (1 < 2 ∨ 1 < 0))
    ∧ (∃ s ∈ [cellIn .serving home], 0 < 65536 ∧ (0 ≤ 1 ∧ (s.cell 0).state.joined = true
      ∧ 0 = (if (s.cell 0).phase = .a then 0 else 1)))
    ∧ (∃ s ∈ [cellIn .serving home], 0 < 65536 ∧ (0 ≤ 1 ∧ (s.cell 0).state.joined = true
      ∧ 1 = (if (s.cell 0).phase = .a then 1 else 0)))
    ∧ (∃ s ∈ [cellIn .disabled home], 0 < 65536 ∧ (0 ≤ 1 ∧ 0 ≤ 1 ∧ (s.cell 0).state = .disabled)) := by
  refine ⟨?_, ?_, ?_, ?_, ?_⟩ <;> decide

theorem test_hyps_CellLossAndDisable :
    (∃ s ∈ [home], 1 < 256 ∧ 24 < 256 ∧ (GrantLaw s ∧ Ready 0x21 s ∧ (s.cell 0).state ≠ .disabled))
    ∧ (∃ s ∈ [home], 1 < 256 ∧ 24 < 256 ∧ (Ready 0x21 s ∧ 23 < 24))
    ∧ (∃ s ∈ [home], 1 < 256 ∧ 24 < 256 ∧ (Ready 0x20 s ∧ 23 < 24))
    ∧ (∃ s ∈ [home], 1 < 256 ∧ 24 < 256 ∧ Ready 0x20 s)
    ∧ (∃ s ∈ [home], 1 < 256 ∧ 24 < 256 ∧ (s.cell 0).heartbeatTimer = none)
    ∧ (∃ s ∈ [home], 1 < 256 ∧ 24 < 256 ∧ (s.cell 0).retuneTimer = none)
    ∧ (∃ s ∈ [home], 1 < 256 ∧ 24 < 256 ∧ (s.cell 0).silenceTimer = none)
    ∧ (∃ s ∈ [cellIn .disabled home], 1 < 256 ∧ 0 < 256 ∧ (GrantLaw s ∧ ∃ d ∈ (s.cell 0).heartbeatTimer, (s.cell 0).good = false
      ∧ 1 ≤ (s.cell 0).missed))
    ∧ (∃ s ∈ [cellIn .disabled home], 1 < 256 ∧ 0 < 256 ∧ (GrantLaw s ∧ ∃ d ∈ (s.cell 0).retuneTimer, True))
    ∧ (∃ s ∈ [cellIn .disabled home], 1 < 256 ∧ 0 < 256 ∧ (GrantLaw s ∧ ∃ d ∈ (s.cell 0).silenceTimer, True))
    ∧ (∃ s ∈ [cellIn .disabled home], 1 < 256 ∧ 0 < 256 ∧ (Ready 0x21 s ∧ (s.cell 0).state = .disabled))
    ∧ (∃ s ∈ [setCell 0 { cellRec .serving with good := true } home], 1 < 256 ∧ 0 < 256
      ∧ (∃ d ∈ (s.cell 0).heartbeatTimer, ((s.cell 0).good = true ∨ (s.cell 0).missed = 0))) := by
  refine ⟨?_, ?_, ?_, ?_, ?_, ?_, ?_, ?_, ?_, ?_, ?_, ?_⟩ <;> decide

theorem test_hyps_ActivityWakesAndIdleDozes :
    (∃ s ∈ [cellIn .serving home], activityValid [0] = true ∧ (s.cell 0).state = .serving)
    ∧ (∃ s ∈ [cellIn .serving home], activityValid [0] = true ∧ (s.cell 0).state = .serving ∧ ∃ d ∈ (s.cell 0).idleTimer, True)
    ∧ (∃ s ∈ [cellIn .serving home], activityValid [0] = true ∧ (s.cell 0).deepTimer = none)
    ∧ (∃ s ∈ [cellIn .doze home], activityValid [0] = true ∧ (s.cell 0).state = .doze ∧ s.Among [0] .primary)
    ∧ (∃ s ∈ [cellIn .doze home], activityValid [0] = true ∧ (s.cell 0).state = .doze ∧ ∃ d ∈ (s.cell 0).deepTimer, True)
    ∧ (∃ s ∈ [home], activityValid [0] = true ∧ (s.cell 0).idleTimer = none)
    ∧ (∃ s ∈ [cellIn .doze home], activityValid [4] = true ∧ (s.cell 0).state = .doze ∧ (¬s.Among [4] .primary))
    ∧ (∃ s ∈ [cellIn .deep home], activityValid [0] = true ∧ (s.cell 0).state = .deep)
    ∧ (∃ s ∈ [cellIn .retuning home], activityValid [0] = true
      ∧ ((s.cell 0).state = .retuning ∨ (s.cell 0).state = .silencing ∨ (s.cell 0).state = .silent)) := by
  refine ⟨?_, ?_, ?_, ?_, ?_, ?_, ?_, ?_, ?_⟩ <;> decide

theorem test_hyps_RetunedAndSilenced :
    (∃ s ∈ [cellIn .serving { home with duc := { home.duc with retuneList := [0] } }], beaconValid (0x10102F#24) = true
      ∧ (s.cell 0).state.joined = true ∧ (s.cell 0).state ≠ .retuning)
    ∧ (∃ s ∈ [cellIn .serving { home with duc := { home.duc with retuneList := [0] } }], (s.cell 0).state.joined = true
      ∧ (s.cell 0).state ≠ .silencing)
    ∧ (∃ s ∈ [cellIn .serving { home with duc := { home.duc with retuneList := [0] } }], s.duc.retuneList ≠ []
      ∧ s.retuningCount < s.settings.retuneWindow)
    ∧ (∃ s ∈ [setContext 1 (subscriber .leaving) (cellIn .silencing home)], (s.cell 0).state = .silencing)
    ∧ (∃ s ∈ [setContext 1 (subscriber .leaving) (cellIn .silencing home)], ∃ k ∈ ([1] : List Nat), ∃ x ∈ s.context k, x.cell = 0
      ∧ x.state = .leaving ∧ x.leaving = some ⟨.serviceOff, false⟩)
    ∧ (∃ s ∈ [cellIn .retuning home], beaconValid (0x10102F#24) = true ∧ (s.cell 0).state = .retuning
      ∧ (s.cell 0).target = some (0x10102F#24))
    ∧ (∃ s ∈ [cellIn .retuning home], (s.cell 0).state = .retuning ∧ (s.cell 0).target ≠ some (0x10101F#24)) := by
  refine ⟨?_, ?_, ?_, ?_, ?_, ?_, ?_⟩ <;> decide

theorem test_hyps_RetuneAndSilenceOrders :
    (∃ s ∈ [home], s.mail.duc = [])
    ∧ (∃ s ∈ [{ home with mail := { home.mail with sbt := 1, rge := 1, epc := [.zone], lkm := [⟨2, zoneSea⟩], duc := [⟨2, zoneSea⟩], cap := [90] } }],
      ∃ e ∈ s.mail.duc.head?, e.record.service = false ∧ GrantLaw s ∧ (s.cell 0).state.silenced = false)
    ∧ (∃ s ∈ [{ home with mail := { home.mail with duc := [⟨0, zonePort⟩] } }], ∃ e ∈ s.mail.duc.head?, e.record.service = true
      ∧ RetuneLaw s ∧ (s.cell 0).state ≠ .silent ∧ (s.cell 0).state ≠ .serving ∧ (s.cell 0).state.dozing = false ∧ GrantLaw s)
    ∧ (∃ s ∈ [cellIn .serving { home with mail := { home.mail with duc := [⟨2, zoneSea⟩], epc := [.zone] } }],
      ∃ e ∈ s.mail.duc.head?, e.record.service = false ∧ GrantLaw s ∧ (s.cell 0).state.silenced = true)
    ∧ (∃ s ∈ [cellIn .silent { home with mail := { home.mail with duc := [⟨0, zonePort⟩] } }],
      ∃ e ∈ s.mail.duc.head?, e.record.service = true ∧ (s.cell 0).state = .silent)
    ∧ (∃ s ∈ [cellIn .doze { home with mail := { home.mail with duc := [⟨0, zonePort⟩] } }],
      ∃ e ∈ s.mail.duc.head?, e.record.service = true ∧ ((s.cell 0).state = .serving ∨ (s.cell 0).state.dozing = true))
    ∧ (∃ s ∈ [cellIn .lost { home with mail := { home.mail with duc := [⟨0, zonePort⟩] } }],
      (∃ e ∈ s.mail.duc.head?, e.record.service = true) ∧ RetuneLaw s ∧ GrantLaw s ∧ (s.cell 0).state = .lost) := by
  refine ⟨?_, ?_, ?_, ?_, ?_, ?_, ?_⟩ <;> decide

theorem test_hyps_Attaching :
    (∃ s ∈ [cellIn .retuning home], sidValid sid1 = true ∧ (s.cell 0).state.joined = true ∧ (s.zone.service = true
      ∧ ((s.cell 0).state = .retuning ∨ (s.cell 0).state = .silencing ∨ (s.cell 0).state = .silent)))
    ∧ (∃ s ∈ [cellIn .serving sea], sidValid sid1 = true ∧ (s.cell 0).state.joined = true ∧ s.zone.service = false)
    ∧ (∃ s ∈ [setCell 0 { cellRec .serving with attached := 160 } home], sidValid sid1 = true ∧ (s.cell 0).state.joined = true
      ∧ (s.zone.service = true ∧ ((s.cell 0).state = .serving ∨ (s.cell 0).state.dozing = true) ∧ s.holderOf sid1 = none
      ∧ s.lowestFree < 2048 ∧ s.settings.cellLimit ≤ (s.cell 0).attached))
    ∧ (∃ s ∈ [holding (subscriber .active) (cellIn .serving home)], sidValid sid1 = true ∧ (s.cell 0).state.joined = true
      ∧ (s.zone.service = true ∧ ((s.cell 0).state = .serving ∨ (s.cell 0).state.dozing = true)
      ∧ ∃ e ∈ s.holderOf sid1, True))
    ∧ (∃ s ∈ [setCell 0 (cellRec .serving) (holding { subscriber .active with sid := 0x200000000000001F#64 } home)],
      sidValid sid1 = true ∧ (s.cell 0).state.joined = true ∧ (s.zone.service = true
      ∧ ((s.cell 0).state = .serving ∨ (s.cell 0).state.dozing = true) ∧ s.holderOf sid1 = none ∧ s.lowestFree < 2048
      ∧ (s.cell 0).attached < s.settings.cellLimit ∧ ContextsInOrder s ∧ ∃ j ∈ ([0] : List Nat), j < s.lowestFree))
    ∧ (∃ s ∈ [cellIn .serving { home with sbt := { home.sbt with contexts := (List.range 2048).map (fun k => (k, { subscriber .attaching with sid := 0x200000000000001F#64 })) } }],
      sidValid sid1 = true ∧ (s.cell 0).state.joined = true ∧ (s.zone.service = true
      ∧ ((s.cell 0).state = .serving ∨ (s.cell 0).state.dozing = true) ∧ s.holderOf sid1 = none ∧ 2048 ≤ s.lowestFree))
    ∧ (∃ s ∈ [cellIn .serving registering, cellIn .serving (linkIn .carrying registering)],
      s.zone.service = true ∧ (s.cell 0).state = .serving ∧ s.holderOf sid1 = none ∧ s.lowestFree < 2048
        ∧ (s.cell 0).attached < s.settings.cellLimit ∧ ContextsInOrder s
        ∧ (s.partnerEntry (s.homeGroup sid1)).mode = .authorize ∧ s.carryingLink = none)
    ∧ (∃ s ∈ [cellIn .serving (linkIn .carrying registering)],
      s.holderOf sid1 = none ∧ (s.partnerEntry (s.homeGroup sid1)).mode = .authorize ∧ s.rge.queue = []
        ∧ s.carryingLink ≠ none ∧ s.rge.outstanding.length < 32) := by
  refine ⟨?_, ?_, ?_, ?_, ?_, ?_, ?_, ?_⟩ <;> decide +kernel

theorem test_hyps_Releases :
    (∃ s ∈ [setContext 1 (subscriber .leaving) (holding { subscriber .active with held := some ⟨1, 2, 0⟩ } (cellIn .serving home))],
      1 < 256 ∧ 0 < 65536 ∧ (∃ x ∈ s.context 0, x.state ≠ .leaving ∧ sidValid x.sid = true
      ∧ (s.cell x.cell).state.joined = true ∧ x.held.isSome = true))
    ∧ (∃ s ∈ [setContext 1 (subscriber .leaving) (holding { subscriber .active with held := some ⟨1, 2, 0⟩ } (cellIn .serving home))],
      1 < 256 ∧ 0 < 65536 ∧ (∃ x ∈ s.context 0, x.state ≠ .leaving ∧ sidValid x.sid = true
      ∧ (s.cell x.cell).state.joined = true ∧ ∃ j ∈ s.contextIndices, j ≠ 0))
    ∧ (∃ s ∈ [setContext 1 (subscriber .leaving) (holding { subscriber .active with held := some ⟨1, 2, 0⟩ } (cellIn .serving home))],
      1 < 256 ∧ 0 < 65536 ∧ (sidValid (0x200000000000001F#64) = true ∧ (s.cell 0).state.joined = true
      ∧ ((s.context 0).all (fun x => x.state == .leaving || x.sid != (0x200000000000001F#64) || x.cell != 0)) = true))
    ∧ (∃ s ∈ [setContext 1 (subscriber .leaving) (holding { subscriber .active with held := some ⟨1, 2, 0⟩ } (cellIn .serving home))],
      1 < 256 ∧ 0 < 65536 ∧ (Ready 0x32 s ∧ 0 < 2048 ∧ ∃ x ∈ s.context 0, x.state ≠ .leaving ∧ x.held.isSome = true))
    ∧ (∃ s ∈ [setContext 1 (subscriber .leaving) (holding { subscriber .active with held := some ⟨1, 2, 0⟩ } (cellIn .serving home))],
      1 < 256 ∧ 0 < 65536 ∧ (Ready 0x32 s ∧ 0 < 2048 ∧ ∃ x ∈ s.context 0, x.state ≠ .leaving ∧ ∃ j ∈ s.contextIndices, j ≠ 0))
    ∧ (∃ s ∈ [setContext 1 (subscriber .leaving) (holding { subscriber .active with held := some ⟨1, 2, 0⟩ } (cellIn .serving home))],
      1 < 256 ∧ 0 < 65536 ∧ (Ready 0x32 s ∧ 0 < 2048 ∧ ∃ x ∈ s.context 0, x.state ≠ .leaving
      ∧ (s.cell x.cell).state.joined = true))
    ∧ (∃ s ∈ [setContext 1 (subscriber .leaving) (holding { subscriber .active with held := some ⟨1, 2, 0⟩ } (cellIn .serving home))],
      1 < 256 ∧ 0 < 65536 ∧ (∃ x ∈ s.context 0, x.state ≠ .leaving ∧ ∃ d ∈ x.orphan, x.held.isSome = true))
    ∧ (∃ s ∈ [setContext 1 (subscriber .leaving) (holding { subscriber .active with held := some ⟨1, 2, 0⟩ } (cellIn .serving home))],
      1 < 256 ∧ 0 < 65536 ∧ (∃ x ∈ s.context 0, x.state ≠ .leaving ∧ ∃ d ∈ x.orphan, ∃ j ∈ s.contextIndices, j ≠ 0))
    ∧ (∃ s ∈ [setContext 1 (subscriber .leaving) (holding { subscriber .active with held := some ⟨1, 2, 0⟩ } (cellIn .serving home))],
      1 < 256 ∧ 0 < 65536 ∧ (∃ x ∈ s.context 0, x.state ≠ .leaving ∧ ∃ d ∈ x.orphan, (s.cell x.cell).state.joined = true))
    ∧ (∃ s ∈ [home], 1 < 256 ∧ 0 < 65536 ∧ (Ready 0x32 s ∧ 0 ≤ 2047 ∧ s.context 0 = none))
    ∧ (∃ s ∈ [home], 1 < 256 ∧ 0 < 65536 ∧ (s.context 0).bind Context.orphan = none)
    ∧ (∃ s ∈ [home], 1 < 256 ∧ 2048 < 65536 ∧ (Ready 0x32 s ∧ 2047 < 2048))
    ∧ (∃ s ∈ [holding (subscriber .leaving) (cellIn .serving home)], 1 < 256 ∧ 0 < 65536 ∧ (Ready 0x32 s ∧ 0 ≤ 2047
      ∧ (s.context 0).any (fun x => x.state == .leaving) = true)) := by
  refine ⟨?_, ?_, ?_, ?_, ?_, ?_, ?_, ?_, ?_, ?_, ?_, ?_, ?_⟩ <;> decide

theorem test_hyps_WatersWithoutService :
    (∃ s ∈ [home], s.mail.sbt = 0)
    ∧ (∃ s ∈ [holding (subscriber .active) (cellIn .silent { home with mail := { home.mail with sbt := 1, rge := 1 } })],
      0 < s.mail.sbt ∧ ∃ x ∈ s.context 0, x.state = .active ∧ (s.cell x.cell).state.quiet = true ∧ x.held = none)
    ∧ (∃ s ∈ [holding { subscriber .active with held := some ⟨1, 2, 0⟩ } (cellIn .silent { home with mail := { home.mail with sbt := 1 } })],
      0 < s.mail.sbt ∧ ∃ x ∈ s.context 0, x.state = .active ∧ (s.cell x.cell).state.quiet = true ∧ x.held.isSome = true)
    ∧ (∃ s ∈ [holding (subscriber .active) (cellIn .serving { home with mail := { home.mail with sbt := 1 } })], 0 < s.mail.sbt
      ∧ ∃ x ∈ s.context 0, x.state = .active ∧ (s.cell x.cell).state.quiet = false)
    ∧ (∃ s ∈ [holding (subscriber .leaving) (cellIn .serving { home with mail := { home.mail with sbt := 1 } })], 0 < s.mail.sbt
      ∧ ∃ x ∈ s.context 0, x.state = .leaving) := by
  refine ⟨?_, ?_, ?_, ?_, ?_⟩ <;> decide

theorem test_hyps_RegistrationAnswersAndTimeouts :
    (∃ s ∈ [linkIn .down home], 0 < 65536 ∧ 0 < 256 ∧ 1 ≤ 1 ∧ (s.link 0).state ≠ .off
      ∧ ((s.entryOf 0).all (fun o => o.link != 0) = true ∨ ¬((s.link 0).state = .carrying ∨ (s.link 0).state = .draining)))
    ∧ (∃ s ∈ [linkIn .down home], 0 < 65536 ∧ 0 < 256 ∧ 1 ≤ 1 ∧ s.entryOf 0 = none)
    ∧ (∃ s ∈ [linkIn .down home], 0 < 65536 ∧ 0 < 256 ∧ 1 ≤ 1 ∧ s.rge.outstanding.all (fun o => o.link != 0) = true)
    ∧ (∃ s ∈ [linkIn .down home], 0 < 65536 ∧ 0 < 256 ∧ 1 ≤ 1 ∧ (OutstandingLaw s ∧ s.carryingLink ≠ some 0))
    ∧ (∃ s ∈ [holding { subscriber .active with registration := .sent 1 .attach } (linkIn .carrying { registering with rge := { registering.rge with outstanding := [sentEntry false] } })],
      0 < 65536 ∧ 0 < 256 ∧ 1 ≤ 1
      ∧ (∃ o ∈ s.entryOf 0, ((s.link o.link).state = .carrying ∨ (s.link o.link).state = .draining) ∧ o.abandoned = false
      ∧ ∃ x ∈ s.context o.ctx, True))
    ∧ (∃ s ∈ [holding { subscriber .active with registration := .sent 1 .attach } (linkIn .carrying { registering with rge := { registering.rge with outstanding := [sentEntry false] } })],
      0 < 65536 ∧ 0 < 256 ∧ 1 ≤ 1 ∧ (∃ o ∈ s.entryOf 0, o.abandoned = false ∧ ∃ x ∈ s.context o.ctx, True))
    ∧ (∃ s ∈ [linkIn .carrying { registering with rge := { registering.rge with outstanding := [sentEntry true] } }], 0 < 65536
      ∧ 0 < 256 ∧ 1 ≤ 1 ∧ (∃ o ∈ s.entryOf 0, ((s.link o.link).state = .carrying ∨ (s.link o.link).state = .draining)
      ∧ o.abandoned = true))
    ∧ (∃ s ∈ [linkIn .carrying { registering with rge := { registering.rge with outstanding := [sentEntry true] } }], 0 < 65536
      ∧ 0 < 256 ∧ 1 ≤ 1 ∧ (∃ o ∈ s.entryOf 0, o.abandoned = true))
    ∧ (∃ s ∈ [{ registering with rge := { registering.rge with outstanding := [sentEntry true] } }], 0 < 65536 ∧ 0 < 256 ∧ 1 ≤ 1
      ∧ (OutstandingLaw s ∧ s.carryingLink ≠ some 0
      ∧ ∃ o ∈ s.rge.outstanding.find? (fun p : Outstanding => p.link == 0), o.abandoned = true))
    ∧ (∃ s ∈ [holding { subscriber .active with registration := .sent 1 .attach } { registering with rge := { registering.rge with outstanding := [sentEntry false] } }],
      0 < 65536 ∧ 0 < 256 ∧ 1 ≤ 1 ∧ (OutstandingLaw s ∧ s.carryingLink ≠ some 0
      ∧ ∃ o ∈ s.rge.outstanding.find? (fun p : Outstanding => p.link == 0), o.abandoned = false
      ∧ ∃ x ∈ s.context o.ctx, True)) := by
  refine ⟨?_, ?_, ?_, ?_, ?_, ?_, ?_, ?_, ?_, ?_⟩ <;> decide +kernel

theorem test_hyps_SendingRegistrations :
    (∃ s ∈ [holding (subscriber .active) (linkIn .carrying { registering with rge := { registering.rge with queue := [0] } })],
      OutstandingLaw s)
    ∧ (∃ s ∈ [holding (subscriber .active) (linkIn .carrying { registering with rge := { registering.rge with queue := [0] } })],
      s.rge.outstanding.all (fun o => o.correlation != s.rge.nextCorrelation) = true)
    ∧ (∃ s ∈ [holding (subscriber .active) (linkIn .carrying { registering with rge := { registering.rge with queue := [0] } })],
      s.rge.queue = [0] ∧ s.rge.outstanding.length < 32
      ∧ ∃ l ∈ s.carryingLink, ∃ x ∈ s.context 0, x.registration = .queued 1 Purpose.attach
      ∧ (s.partnerEntry x.homeGroup).mode = .authorize)
    ∧ (∃ s ∈ [holding (subscriber .active) (linkIn .carrying { registering with rge := { registering.rge with queue := [0] } })],
      ∃ l ∈ s.carryingLink, s.rge.queue.head? = some 0 ∧ s.rge.outstanding.length < 32)
    ∧ (∃ s ∈ [holding (subscriber .active) (linkIn .carrying { registering with rge := { registering.rge with queue := [0] } })],
      ∃ x ∈ s.context 0, True)
    ∧ (∃ s ∈ [home], (s.carryingLink = none ∨ 32 ≤ s.rge.outstanding.length))
    ∧ (∃ s ∈ [holding (subscriber .attaching) (linkIn .carrying { registering with rge := { registering.rge with queue := [0, 1] } })],
      ∃ l ∈ s.carryingLink, s.rge.queue.head? = some 0 ∧ s.rge.outstanding.length < 32
        ∧ ∃ x ∈ s.context 0, x.registration = .queued 1 .attach ∧ (s.partnerEntry x.homeGroup).mode = .authorize)
    ∧ (∃ s ∈ [holding { subscriber .active with registration := .queued 1 .rereg } (linkIn .carrying { registering with rge := { registering.rge with queue := [0, 1] } })],
      ∃ l ∈ s.carryingLink, s.rge.queue.head? = some 0 ∧ s.rge.outstanding.length < 32
        ∧ ∃ x ∈ s.context 0, x.registration = .queued 1 .rereg ∧ (s.partnerEntry x.homeGroup).mode = .authorize)
    ∧ (∃ s ∈ [holding (subscriber .attaching) (linkIn .carrying { home with rge := { home.rge with queue := [0, 1] } })],
      ∃ l ∈ s.carryingLink, s.rge.queue.head? = some 0 ∧ s.rge.outstanding.length < 32
        ∧ ∃ x ∈ s.context 0, x.registration = .queued 1 .attach ∧ (s.partnerEntry x.homeGroup).mode = .local)
    ∧ (∃ s ∈ [holding { subscriber .active with registration := .queued 1 .rereg } (linkIn .carrying { home with rge := { home.rge with queue := [0, 1] } })],
      ∃ l ∈ s.carryingLink, s.rge.queue.head? = some 0 ∧ s.rge.outstanding.length < 32
        ∧ ∃ x ∈ s.context 0, x.registration = .queued 1 .rereg ∧ (s.partnerEntry x.homeGroup).mode = .local)
    ∧ (∃ s ∈ [holding (subscriber .attaching) (linkIn .carrying { unserved with rge := { unserved.rge with queue := [0, 1] } })],
      ∃ l ∈ s.carryingLink, s.rge.queue.head? = some 0 ∧ s.rge.outstanding.length < 32
        ∧ ∃ x ∈ s.context 0, x.registration = .queued 1 .attach ∧ (s.partnerEntry x.homeGroup).mode = .forbidden)
    ∧ (∃ s ∈ [holding { subscriber .active with registration := .queued 1 .rereg } (linkIn .carrying { unserved with rge := { unserved.rge with queue := [0, 1] } })],
      ∃ l ∈ s.carryingLink, s.rge.queue.head? = some 0 ∧ s.rge.outstanding.length < 32
        ∧ ∃ x ∈ s.context 0, x.registration = .queued 1 .rereg ∧ (s.partnerEntry x.homeGroup).mode = .forbidden)
    ∧ (∃ s ∈ [linkIn .carrying { home with rge := { home.rge with queue := [0, 1] } }],
      ∃ l ∈ s.carryingLink, s.rge.queue.head? = some 0 ∧ s.rge.outstanding.length < 32 ∧ s.context 0 = none) := by
  refine ⟨?_, ?_, ?_, ?_, ?_, ?_, ?_, ?_, ?_, ?_, ?_, ?_, ?_⟩ <;> decide +kernel

theorem test_hyps_ReevaluationAndReregistering :
    (∃ s ∈ [home], 1 < 256 ∧ 0 < 65536 ∧ s.mail.rge = 0)
    ∧ (∃ s ∈ [home], 1 < 256 ∧ 0 < 65536 ∧ (Ready 0x33 s ∧ 0 ≤ 2047 ∧ s.context 0 = none))
    ∧ (∃ s ∈ [holding { subscriber .active with registration := .queued 1 .rereg } { registering with mail := { registering.mail with rge := 1 } }],
      1 < 256 ∧ 0 < 65536 ∧ (0 < s.mail.rge ∧ ContextLaw s ∧ ∃ x ∈ s.context 0, x.state = .active))
    ∧ (∃ s ∈ [holding { subscriber .active with registration := .queued 1 .rereg } { registering with mail := { registering.mail with rge := 1 } }],
      1 < 256 ∧ 0 < 65536 ∧ (Ready 0x33 s ∧ 0 ≤ 2047 ∧ ∃ x ∈ s.context 0, x.state = .active))
    ∧ (∃ s ∈ [home], 1 < 256 ∧ 2048 < 65536 ∧ (Ready 0x33 s ∧ 2047 < 2048))
    ∧ (∃ s ∈ [holding (subscriber .attaching) (cellIn .serving home)], 1 < 256 ∧ 0 < 65536 ∧ (Ready 0x33 s ∧ 0 ≤ 2047
      ∧ ∃ x ∈ s.context 0, x.state ≠ .active)) := by
  refine ⟨?_, ?_, ?_, ?_, ?_, ?_⟩ <;> decide +kernel

theorem test_hyps_Epochs :
    (∃ s ∈ [cellIn .serving { home with epc := { home.epc with ring := ring2 .waiting ++ [{ Epoch.first 0 with number := 2 }, { Epoch.first 0 with number := 3 }] }, mail := { home.mail with epc := [.zone] } }],
      0 < 256 ∧ (s.mail.epc.contains OpenReason.zone = true ∧ 1 ≤ s.epc.ring.length ∧ 4 = s.epc.ring.length))
    ∧ (∃ s ∈ [cellIn .serving { home with epc := { home.epc with ring := ring2 .waiting ++ [{ Epoch.first 0 with number := 2 }, { Epoch.first 0 with number := 3 }] }, mail := { home.mail with epc := [.zone] } }],
      0 < 256 ∧ (s.cell 0).state.joined = true ∧ RingLaw s ∧ ∃ e ∈ s.epc.ring[0]?, ∃ f ∈ s.epc.ring[1]?, True)
    ∧ (∃ s ∈ [cellIn .serving { home with epc := { home.epc with ring := ring2 .waiting ++ [{ Epoch.first 0 with number := 2 }, { Epoch.first 0 with number := 3 }] }, mail := { home.mail with epc := [.zone] } }],
      0 < 256 ∧ (s.heldEpoch 0).all (fun e => e.cut != .waiting || e.cutTimer.isNone) = true)
    ∧ (∃ s ∈ [cellIn .serving { home with epc := { home.epc with ring := ring2 .waiting ++ [{ Epoch.first 0 with number := 2 }, { Epoch.first 0 with number := 3 }] }, mail := { home.mail with epc := [.zone] } }],
      0 < 256 ∧ (∀ f ∈ s.epc.ring[1]?, f.cut = .none ∨ f.cut = .waiting))
    ∧ (∃ s ∈ [cellIn .serving { home with epc := { home.epc with ring := ring2 .waiting ++ [{ Epoch.first 0 with number := 2 }, { Epoch.first 0 with number := 3 }] }, mail := { home.mail with epc := [.zone] } }],
      0 < 256 ∧ (s.mail.epc.contains OpenReason.zone = true ∧ s.epc.ring.length = 4
      ∧ (allCells.filter (fun d => (s.cell d).state.pends)) ≠ [] ∧ ∃ f ∈ s.epc.ring[1]?, True))
    ∧ (∃ s ∈ [cellIn .serving { home with epc := { home.epc with ring := ring2 .waiting ++ [{ Epoch.first 0 with number := 2 }, { Epoch.first 0 with number := 3 }] }, mail := { home.mail with epc := [.zone] } }],
      0 < 256 ∧ (s.mail.epc.contains OpenReason.zone = true ∧ s.epc.ring.length = 4 ∧ ∃ f ∈ s.epc.ring[1]?, True))
    ∧ (∃ s ∈ [cellIn .serving { home with epc := { home.epc with ring := ring2 .waiting ++ [{ Epoch.first 0 with number := 2 }, { Epoch.first 0 with number := 3 }] }, mail := { home.mail with epc := [.zone] } }],
      0 < 256 ∧ ContextsInOrder s)
    ∧ (∃ s ∈ [cellIn .serving { home with epc := { home.epc with ring := ring2 .waiting } }], 1 < 256
      ∧ s.mail.epc.contains OpenReason.zone = false)
    ∧ (∃ s ∈ [cellIn .serving { home with epc := { home.epc with ring := ring2 .waiting } }], 1 < 256
      ∧ (s.cell 0).state.joined = true ∧ (s.epc.ring.dropLast.all (fun e => e.number != 1)) = true) := by
  refine ⟨?_, ?_, ?_, ?_, ?_, ?_, ?_, ?_, ?_⟩ <;> decide +kernel

theorem test_hyps_Epochs_more :
    (∃ s ∈ [cellIn .serving { home with epc := { home.epc with ring := ring2 .waiting } }], 1 < 256 ∧ (RingLaw s
      ∧ ∃ e ∈ s.heldEpoch 1, e.cut = .waiting ∧ ∃ d ∈ e.cutTimer, True))
    ∧ (∃ s ∈ [{ home with epc := { home.epc with ring := ring2 .complete ++ [{ Epoch.first 0 with number := 2 }] } }], 0 < 256
      ∧ (∃ f ∈ s.epc.ring[1]?, (f.cut = .complete ∨ f.cut = .timedOut) ∧ ∃ g ∈ (retirementCheck s).epc.ring[1]?, True))
    ∧ (∃ s ∈ [{ home with epc := { home.epc with ring := ring2 .complete ++ [{ Epoch.first 0 with number := 2 }] } }], 0 < 256
      ∧ (∃ f ∈ s.epc.ring[1]?, f.cut = .complete))
    ∧ (∃ s ∈ [{ home with mail := { home.mail with sbt := 1, rge := 1, epc := [.zone], lkm := [⟨2, zoneSea⟩], duc := [⟨2, zoneSea⟩], cap := [90] } }],
      0 < 256 ∧ (s.mail.epc.contains OpenReason.zone = true ∧ s.epc.ring.length < 4
      ∧ (allCells.filter (fun d => (s.cell d).state.pends)) = []))
    ∧ (∃ s ∈ [cellIn .serving { home with mail := { home.mail with duc := [⟨2, zoneSea⟩], epc := [.zone] } }], 0 < 256
      ∧ (s.mail.epc.contains OpenReason.zone = true ∧ s.epc.ring.length < 4
      ∧ (allCells.filter (fun d => (s.cell d).state.pends)) ≠ []))
    ∧ (∃ s ∈ [setCell 0 { cellRec .serving with attached := 2 } (setContext 1 { subscriber .active with sid := 0x200000000000001F#64 } (holding (subscriber .active) home))],
      0 < 256 ∧ (ContextsInOrder s ∧ ∃ k ∈ ([1] : List Nat), ∃ x ∈ s.context k, True))
    ∧ (∃ s ∈ [{ home with epc := { home.epc with ring := ring2 .timedOut } }], 0 < 256 ∧ (∃ f ∈ s.epc.ring[1]?, f.cut = .timedOut))
    ∧ (∃ s ∈ [{ home with epc := { home.epc with ring := ring2 .waiting ++ [{ Epoch.first 0 with number := 2 }, { Epoch.first 0 with number := 3 }] }, mail := { home.mail with epc := [.zone] } }],
      0 < 256 ∧ s.mail.epc.contains OpenReason.zone = true ∧ s.epc.ring.length = 4
        ∧ allCells.filter (fun d => (s.cell d).state.pends) = [] ∧ ∃ f ∈ s.epc.ring[1]?, True)
    ∧ (∃ s ∈ [{ home with epc := { home.epc with ring := ring2 .waiting }, mail := { home.mail with epc := [.zone] } }],
      0 < 256 ∧ s.mail.epc.contains OpenReason.zone = true ∧ s.epc.ring.length < 4
        ∧ allCells.filter (fun d => (s.cell d).state.pends) = []
        ∧ s.epc.ring.tail.all (fun e => e.cut == .complete || e.cut == .timedOut) = false) := by
  refine ⟨?_, ?_, ?_, ?_, ?_, ?_, ?_, ?_, ?_⟩ <;> decide +kernel

theorem test_hyps_QuotaDebit :
    (∃ s ∈ [holding (subscriber .active) (cellIn .serving home)], ∃ x ∈ s.context 0, x.quota.unlimited = false
      ∧ 0 < x.quota.balance)
    ∧ (∃ s ∈ [holding (subscriber .active) (cellIn .serving home)], ∃ x ∈ s.context 0, x.quota.unlimited = false)
    ∧ (∃ j ∈ ([1] : List Nat), j ≠ 0)
    ∧ (∃ s ∈ [holding (subscriber .active) (cellIn .serving home)], ∃ x ∈ s.context 0, True)
    ∧ (∃ s ∈ [home], (s.context 0 = none ∨ (s.context 0).any (fun x => x.quota.unlimited) = true))
    ∧ (∃ s ∈ [home], s.context 0 = none)
    ∧ (∃ s ∈ [holding (subscriber .active) (cellIn .serving home)], ∃ x ∈ s.context 0, x.quota.unlimited = false
      ∧ x.quota.balance ≤ 100) := by
  refine ⟨?_, ?_, ?_, ?_, ?_, ?_, ?_⟩ <;> decide

theorem test_hyps_ClosingAnAccumulator :
    (∃ s ∈ [home], (s.context 0).bind Context.accumulator = none)
    ∧ (∃ j ∈ ([1] : List Nat), j ≠ 0)
    ∧ (∃ s ∈ [holding (subscriber .active) (cellIn .serving home)], ∃ x ∈ s.context 0, ∃ a ∈ x.accumulator, True) := by
  refine ⟨?_, ?_, ?_⟩ <;> decide

theorem test_hyps_UsageEntries :
    (∃ s ∈ [holding (subscriber .active) (cellIn .serving home)], (s.cell 0).state.joined = true ∧ 7 < 256 ∧ 0 < 65536
      ∧ 1 < 4294967296 ∧ 1 < 4294967296 ∧ (∃ x ∈ s.context 0, x.state ≠ .attaching ∧ x.held = none
      ∧ ∃ a ∈ x.accumulator, a.key = s.keyUnder x.homeGroup (s.ratingEpoch 7) ∧ 0 < a.values.block))
    ∧ (∃ s ∈ [holding (subscriber .active) (cellIn .serving home)], (s.cell 0).state.joined = true ∧ 7 < 256 ∧ 0 < 65536
      ∧ 1 < 4294967296 ∧ 1 < 4294967296 ∧ (s.heldEpoch 7 = none ∧ ∃ x ∈ s.context 0, x.state ≠ .attaching ∧ x.held = none
      ∧ ∃ a ∈ x.accumulator, a.key = s.keyUnder x.homeGroup s.oldestEpoch))
    ∧ (∃ s ∈ [holding (subscriber .active) (cellIn .serving home)], (s.cell 0).state.joined = true ∧ 7 < 256 ∧ 0 < 65536
      ∧ 1 < 4294967296 ∧ 1 < 4294967296 ∧ (ContextsInOrder s ∧ ∃ x ∈ s.context 0, x.state ≠ .attaching ∧ x.held = none
      ∧ ∃ a ∈ x.accumulator, True))
    ∧ (∃ s ∈ [holding (subscriber .active) (cellIn .serving home)], (s.cell 0).state.joined = true ∧ 7 < 256 ∧ 0 < 65536
      ∧ 1 < 4294967296 ∧ 1 < 4294967296 ∧ (([⟨0, 1, 1⟩] : List UsageEntry) ≠ []
      ∧ ([⟨0, 1, 1⟩] : List UsageEntry).length < 64))
    ∧ (∃ s ∈ [holding { subscriber .active with accumulator := some (openAcc { keyHome with zone := 9 }) } (cellIn .serving home)],
      (s.cell 0).state.joined = true ∧ 0 < 256 ∧ 0 < 65536 ∧ 1 < 4294967296 ∧ 1 < 4294967296
      ∧ (∃ x ∈ s.context 0, x.state ≠ .attaching ∧ x.held = none
      ∧ ∃ a ∈ x.accumulator, a.key ≠ s.keyUnder x.homeGroup (s.ratingEpoch 0) ∧ s.gateCount < 2048 ∧ ContextsInOrder s))
    ∧ (∃ s ∈ [holding { subscriber .active with accumulator := some (openAcc { keyHome with zone := 9 }) } (cellIn .serving home)],
      (s.cell 0).state.joined = true ∧ 0 < 256 ∧ 0 < 65536 ∧ 1 < 4294967296 ∧ 1 < 4294967296
      ∧ (∃ x ∈ s.context 0, x.state ≠ .attaching ∧ x.held = none
      ∧ ∃ a ∈ x.accumulator, a.key ≠ s.keyUnder x.homeGroup (s.ratingEpoch 0) ∧ s.gateCount < 2048))
    ∧ (∃ s ∈ [cellIn .serving home], (s.cell 0).state.joined = true ∧ 0 < 256 ∧ 0 < 65536 ∧ 1 < 4294967296 ∧ 1 < 4294967296
      ∧ (s.context 0).all (fun x => x.state == .attaching) = true)
    ∧ (∃ s ∈ [holding { subscriber .active with held := some ⟨1, 2, 0⟩ } (cellIn .serving home)], (s.cell 0).state.joined = true
      ∧ 0 < 256 ∧ 0 < 65536 ∧ 1 < 4294967296 ∧ 1 < 4294967296 ∧ (∃ x ∈ s.context 0, x.state ≠ .attaching
      ∧ ∃ h ∈ x.held, True))
    ∧ (∃ s ∈ [holding { subscriber .active with orphan := none, accumulator := none } (cellIn .serving home)],
      (s.cell 0).state.joined = true ∧ 0 < 256 ∧ 0 < 65536 ∧ 1 < 4294967296 ∧ 1 < 4294967296
      ∧ (∃ x ∈ s.context 0, x.state ≠ .attaching ∧ x.held = none ∧ x.accumulator = none ∧ s.gateCount < 2048))
    ∧ (∃ s ∈ [holding { subscriber .active with accumulator := none } (cellIn .serving { home with tkq := { home.tkq with tickets := List.replicate 2048 ticket0 } })],
      (s.cell 0).state.joined = true ∧ 0 < 256 ∧ 0 < 65536 ∧ 1 < 4294967296 ∧ 1 < 4294967296
      ∧ (∃ x ∈ s.context 0, x.state ≠ .attaching ∧ x.held = none ∧ x.accumulator = none ∧ 2048 ≤ s.gateCount))
    ∧ (∃ s ∈ [holding { subscriber .active with accumulator := some (openAcc { keyHome with zone := 9 }) } (cellIn .serving { home with tkq := { home.tkq with tickets := List.replicate 2048 ticket0 } })],
      (s.cell 0).state.joined = true ∧ 0 < 256 ∧ 0 < 65536 ∧ 1 < 4294967296 ∧ 1 < 4294967296
      ∧ (∃ x ∈ s.context 0, x.state ≠ .attaching ∧ x.held = none
      ∧ ∃ a ∈ x.accumulator, a.key ≠ s.keyUnder x.homeGroup (s.ratingEpoch 0) ∧ 2048 ≤ s.gateCount ∧ ContextsInOrder s))
    ∧ (∃ s ∈ [holding { subscriber .active with accumulator := none } (cellIn .serving home)],
      (s.cell 0).state.joined = true ∧ 7 < 256 ∧ 0 < 65536 ∧ s.heldEpoch 7 = none
        ∧ ∃ x ∈ s.context 0, x.state ≠ .attaching ∧ x.held = none
        ∧ x.accumulator = none ∧ s.gateCount < 2048 ∧ 0 < (s.tariffValues (s.keyUnder x.homeGroup (s.ratingEpoch 7))).block)
    ∧ (∃ s ∈ [holding { subscriber .active with accumulator := none } (cellIn .serving { home with tkq := { home.tkq with tickets := List.replicate 2048 ticket0 } })],
      (s.cell 0).state.joined = true ∧ 7 < 256 ∧ 0 < 65536 ∧ s.heldEpoch 7 = none
        ∧ ∃ x ∈ s.context 0, x.state ≠ .attaching ∧ x.held = none
        ∧ x.accumulator = none ∧ 2048 ≤ s.gateCount)
    ∧ (∃ s ∈ [holding { subscriber .active with accumulator := some (openAcc { keyHome with zone := 9 }) } (cellIn .serving home)],
      (s.cell 0).state.joined = true ∧ 7 < 256 ∧ 0 < 65536 ∧ s.heldEpoch 7 = none
        ∧ ∃ x ∈ s.context 0, x.state ≠ .attaching ∧ x.held = none
        ∧ ∃ a ∈ x.accumulator, a.key ≠ (s.keyUnder x.homeGroup (s.ratingEpoch 7)) ∧ s.gateCount < 2048 ∧ ContextsInOrder s ∧ s.epochAge a.lastEpoch ≤ s.epochAge (s.ratingEpoch 7).number)
    ∧ (∃ s ∈ [holding { subscriber .active with accumulator := some (openAcc { keyHome with zone := 9 }) } (cellIn .serving { home with tkq := { home.tkq with tickets := List.replicate 2048 ticket0 } })],
      (s.cell 0).state.joined = true ∧ 7 < 256 ∧ 0 < 65536 ∧ s.heldEpoch 7 = none
        ∧ ∃ x ∈ s.context 0, x.state ≠ .attaching ∧ x.held = none
        ∧ ∃ a ∈ x.accumulator, a.key ≠ (s.keyUnder x.homeGroup (s.ratingEpoch 7)) ∧ 2048 ≤ s.gateCount ∧ ContextsInOrder s ∧ s.epochAge a.lastEpoch ≤ s.epochAge (s.ratingEpoch 7).number)
    ∧ (∃ s ∈ [holding { subscriber .active with accumulator := some { openAcc { keyHome with zone := 9 } with firstEpoch := 1, lastEpoch := 1 } } (cellIn .serving { home with epc := { home.epc with ring := ring2 .waiting } })],
      (s.cell 0).state.joined = true ∧ 7 < 256 ∧ 0 < 65536 ∧ s.heldEpoch 7 = none
        ∧ ∃ x ∈ s.context 0, x.state ≠ .attaching ∧ x.held = none
        ∧ ∃ a ∈ x.accumulator, a.key ≠ (s.keyUnder x.homeGroup (s.ratingEpoch 7)) ∧ s.gateCount < 2048 ∧ ContextsInOrder s ∧ s.epochAge (s.ratingEpoch 7).number < s.epochAge a.lastEpoch
        ∧ 0 < (s.tariffValues (s.keyUnder x.homeGroup (s.ratingEpoch 7))).block)
    ∧ (∃ s ∈ [holding { subscriber .active with accumulator := some { openAcc { keyHome with zone := 9 } with firstEpoch := 1, lastEpoch := 1 } } (cellIn .serving { home with epc := { home.epc with ring := ring2 .waiting }, tkq := { home.tkq with tickets := List.replicate 2048 ticket0 } })],
      (s.cell 0).state.joined = true ∧ 7 < 256 ∧ 0 < 65536 ∧ s.heldEpoch 7 = none
        ∧ ∃ x ∈ s.context 0, x.state ≠ .attaching ∧ x.held = none
        ∧ ∃ a ∈ x.accumulator, a.key ≠ (s.keyUnder x.homeGroup (s.ratingEpoch 7)) ∧ 2048 ≤ s.gateCount ∧ ContextsInOrder s ∧ s.epochAge (s.ratingEpoch 7).number < s.epochAge a.lastEpoch) := by
  refine ⟨?_, ?_, ?_, ?_, ?_, ?_, ?_, ?_, ?_, ?_, ?_, ?_, ?_, ?_, ?_, ?_, ?_⟩ <;> decide +kernel

theorem test_hyps_QuotaRequests :
    (∃ s ∈ [home], 1 < 256 ∧ 0 < 65536 ∧ 0 < 18446744073709551616 ∧ 0 < 256 ∧ (Ready 0x40 s ∧ (¬(2047 < 0 ∨ 4 < 0 ∨ (0 ≤ 1
      ∧ maxMoney < 0) ∨ (0 = 4 ∧ 1000 < 0)))))
    ∧ (∃ s ∈ [home], 1 < 256 ∧ 0 < 65536 ∧ 0 < 18446744073709551616 ∧ 0 < 256 ∧ Ready 0x41 s)
    ∧ (∃ s ∈ [home], 1 < 256 ∧ 0 < 65536 ∧ 0 < 18446744073709551616 ∧ 255 < 256 ∧ (Ready 0x40 s ∧ (2047 < 0 ∨ 4 < 255 ∨ (255 ≤ 1
      ∧ maxMoney < 0) ∨ (255 = 4 ∧ 1000 < 0)))) := by
  refine ⟨?_, ?_, ?_⟩ <;> decide

theorem test_hyps_TicketReleaseAndInterval :
    (∃ s ∈ [holding { subscriber .active with registration := .none, held := some ⟨1, 2, 0⟩ } { home with tkq := { home.tkq with tickets := [ticket0], nextSeq := 1, holdList := [0] } }],
      1 < 256 ∧ 0 < 4294967296 ∧ (Ready 0x51 s
      ∧ ∃ i ∈ s.tkq.tickets.findIdx? (fun u : Ticket => u.seq == 0), s.tkq.holdList.Nodup))
    ∧ (∃ s ∈ [holding { subscriber .active with registration := .none, held := some ⟨1, 2, 0⟩ } { home with tkq := { home.tkq with tickets := [ticket0], nextSeq := 1, holdList := [0] } }],
      1 < 256 ∧ 0 < 4294967296 ∧ (s.tkq.holdList.head? = some 0 ∧ s.gateCount < 2048))
    ∧ (∃ s ∈ [holding { subscriber .active with registration := .none, held := some ⟨1, 2, 0⟩ } { home with tkq := { home.tkq with tickets := [ticket0], nextSeq := 1, holdList := [0] } }],
      1 < 256 ∧ 0 < 4294967296 ∧ (ContextsInOrder s ∧ ∃ x ∈ s.context 0, ∃ h ∈ x.held, True))
    ∧ (∃ s ∈ [holding { subscriber .active with registration := .none, held := some ⟨1, 2, 0⟩ } { home with tkq := { home.tkq with tickets := [ticket0], nextSeq := 1, holdList := [0] } }],
      1 < 256 ∧ 0 < 4294967296 ∧ (s.settings.interval ≠ 0 ∧ ∃ a ∈ (s.context 0).bind Context.accumulator, True))
    ∧ (∃ s ∈ [home], 1 < 256 ∧ 0 < 4294967296 ∧ (Ready 0x51 s ∧ s.tkq.tickets.all (fun u => u.seq != 0) = true))
    ∧ (∃ s ∈ [home], 1 < 256 ∧ 0 < 4294967296 ∧ (s.tkq.holdList = [] ∨ 2048 ≤ s.gateCount))
    ∧ (∃ s ∈ [home], 1 < 256 ∧ 0 < 4294967296 ∧ (s.settings.interval = 0 ∨ (s.context 0).bind Context.accumulator = none))
    ∧ (∃ s ∈ [{ home with tkq := { home.tkq with tickets := [ticket0], nextSeq := 1 } }], 1 < 256 ∧ 0 < 4294967296 ∧ (Ready 0x51 s
      ∧ ∃ i ∈ s.tkq.tickets.findIdx? (fun u : Ticket => u.seq == 0), s.tkq.holdList = [])) := by
  refine ⟨?_, ?_, ?_, ?_, ?_, ?_, ?_, ?_⟩ <;> decide +kernel

theorem test_hyps_Restarts :
    (∃ s ∈ [holding (subscriber .active) (cellIn .serving home)], 1 < 256 ∧ Ready 0x6E s)
    ∧ (∃ s ∈ [holding (subscriber .active) (cellIn .serving home)], 1 < 256 ∧ s.mail.restart.contains .rte = false)
    ∧ (∃ s ∈ [holding (subscriber .active) (cellIn .serving home)], 1 < 256 ∧ s.mail.restart.contains .tkq = false)
    ∧ (∃ s ∈ [holding (subscriber .active) (cellIn .serving home)], 1 < 256 ∧ s.mail.restart.contains .rge = false)
    ∧ (∃ s ∈ [holding (subscriber .active) (cellIn .serving home)], 1 < 256 ∧ s.mail.restart.contains .epc = false)
    ∧ (∃ s ∈ [holding (subscriber .active) (cellIn .serving home)], 1 < 256 ∧ s.mail.restart.contains .duc = false)
    ∧ (∃ s ∈ [holding (subscriber .active) (cellIn .serving home)], 1 < 256 ∧ s.mail.restart.contains .sbt = false)
    ∧ (∃ s ∈ [holding (subscriber .active) (cellIn .serving home)], 1 < 256 ∧ ContextsInOrder s)
    ∧ (∃ s ∈ [holding (subscriber .active) (cellIn .serving home)], 1 < 256 ∧ (ContextsInOrder s ∧ ∃ e ∈ s.sbt.contexts, True))
    ∧ (∃ s ∈ [holding (subscriber .active) (cellIn .serving home)], 1 < 256 ∧ (s.holdsJoins = false ∧ 0 < 4294967296))
    ∧ (∃ s ∈ [{ home with mail := { home.mail with restart := [.epc, .cap, .duc, .sbt, .rge, .rte, .tkq] } }], 1 < 256
      ∧ (s.mail.restart.contains .rte = true ∧ s.NoneMalformed .rte))
    ∧ (∃ s ∈ [{ home with mail := { home.mail with restart := [.epc, .cap, .duc, .sbt, .rge, .rte, .tkq] } }], 1 < 256
      ∧ (s.mail.restart.contains .tkq = true ∧ s.NoneMalformed .tkq))
    ∧ (∃ s ∈ [{ home with mail := { home.mail with restart := [.epc, .cap, .duc, .sbt, .rge, .rte, .tkq] } }], 1 < 256
      ∧ (s.mail.restart.contains .rge = true ∧ s.NoneMalformed .rge))
    ∧ (∃ s ∈ [{ home with mail := { home.mail with restart := [.epc, .cap, .duc, .sbt, .rge, .rte, .tkq] } }], 1 < 256
      ∧ (s.mail.restart.contains .epc = true ∧ s.NoneMalformed .epc))
    ∧ (∃ s ∈ [{ home with mail := { home.mail with restart := [.epc, .cap, .duc, .sbt, .rge, .rte, .tkq] } }], 1 < 256
      ∧ (GrantLaw s ∧ s.NoneMalformed .duc ∧ s.mail.restart.contains .duc = true ∧ (s.cell 0).state ≠ .disabled))
    ∧ (∃ s ∈ [{ home with mail := { home.mail with restart := [.epc, .cap, .duc, .sbt, .rge, .rte, .tkq] } }], 1 < 256
      ∧ (s.mail.restart.contains .sbt = true ∧ s.NoneMalformed .sbt))
    ∧ (∃ s ∈ [cellIn .disabled { home with mail := { home.mail with restart := [.duc] } }], 1 < 256 ∧ (GrantLaw s
      ∧ s.NoneMalformed .duc ∧ s.mail.restart.contains .duc = true ∧ (s.cell 0).state = .disabled))
    ∧ (∃ s ∈ [{ home with mail := { home.mail with restart := [.epc] }, duc := { home.duc with heldJoins := [(0, 7)] } }],
      s.mail.restart.contains .epc = true ∧ s.NoneMalformed .epc ∧ (s.restartTaken .epc).holdsJoins = false ∧ s.duc.heldJoins ≠ [])
    ∧ (∃ s ∈ [holding { subscriber .active with accumulator := none, held := some ⟨1, 2, 0⟩ }
        { home with tkq := { home.tkq with tickets := List.replicate 2048 ticket0, holdList := [0] } }],
      ContextsInOrder s ∧ s.needRoom.drop (2048 - s.gateCount) ≠ [] ∧ ∃ e ∈ s.sbt.contexts, e.2.held.isSome = true) := by
  refine ⟨?_, ?_, ?_, ?_, ?_, ?_, ?_, ?_, ?_, ?_, ?_, ?_, ?_, ?_, ?_, ?_, ?_, ?_, ?_⟩ <;> decide +kernel

theorem test_hyps_Queries :
    (∃ s ∈ [home], 1 < 256 ∧ 24 < 256 ∧ 2 < 256 ∧ 0 < 65536 ∧ sidValid sid1 = true ∧ Ready 0x04 s)
    ∧ (∃ s ∈ [home], 1 < 256 ∧ 24 < 256 ∧ 2 < 256 ∧ 0 < 65536 ∧ sidValid sid1 = true ∧ (Ready 0x13 s ∧ 5 < 24))
    ∧ (∃ s ∈ [home], 1 < 256 ∧ 24 < 256 ∧ 2 < 256 ∧ 0 < 65536 ∧ sidValid sid1 = true ∧ (Ready 0x22 s ∧ 1 < 2))
    ∧ (∃ s ∈ [home], 1 < 256 ∧ 24 < 256 ∧ 2 < 256 ∧ 0 < 65536 ∧ sidValid sid1 = true ∧ (Ready 0x22 s ∧ 23 < 24 ∧ 24 ≠ 255))
    ∧ (∃ s ∈ [home], 1 < 256 ∧ 24 < 256 ∧ 2 < 256 ∧ 0 < 65536 ∧ sidValid sid1 = true ∧ (Ready 0x30 s ∧ 0 ≤ 2047))
    ∧ (∃ s ∈ [home], 1 < 256 ∧ 24 < 256 ∧ 2 < 256 ∧ 0 < 65536 ∧ sidValid sid1 = true ∧ Ready 0x31 s)
    ∧ (∃ s ∈ [home], 1 < 256 ∧ 24 < 256 ∧ 2 < 256 ∧ 0 < 65536 ∧ sidValid sid1 = true ∧ Ready 0x50 s)
    ∧ (∃ s ∈ [home], 1 < 256 ∧ 24 < 256 ∧ 2 < 256 ∧ 0 < 65536 ∧ sidValid sid1 = true ∧ (Ready 0x65 s ∧ 5 < 24))
    ∧ (∃ s ∈ [home], 1 < 256 ∧ 24 < 256 ∧ 2 < 256 ∧ 0 < 65536 ∧ sidValid sid1 = true ∧ Ready 0x6D s)
    ∧ (∃ s ∈ [home], 1 < 256 ∧ 0 < 256 ∧ 0 < 256 ∧ 2048 < 65536 ∧ sidValid sid1 = true ∧ (Ready 0x30 s ∧ 2047 < 2048
      ∧ 2048 ≠ 65535))
    ∧ (∃ s ∈ [home], 1 < 256 ∧ 0 < 256 ∧ 0 < 256 ∧ 65535 < 65536 ∧ sidValid sid1 = true ∧ (Ready 0x30 s ∧ 65535 = 65535)) := by
  refine ⟨?_, ?_, ?_, ?_, ?_, ?_, ?_, ?_, ?_, ?_, ?_⟩ <;> decide

theorem test_hyps_GrantsStayWithinPool :
    ∃ s ∈ [cellIn .serving { home with cap := { home.cap with carried := 100, pool := 96 }, duc := { home.duc with retuneList := [0] } }],
      GrantLaw s ∧ RetuneLaw s := by decide

/-- A state whose hold list is not empty: context 0 is ACTIVE with held usage. -/
def heldUp : State :=
  holding { subscriber .active with registration := .none, held := some ⟨1, 2, 0⟩, restrictions := ⟨false, true, false⟩ }
    { home with tkq := { home.tkq with holdList := [0] } }

theorem test_hyps_GateStaysWithinBound : GateLaw heldUp ∧ HoldLaw heldUp := by
  refine ⟨by decide, by decide, by decide, fun k => ?_, by decide⟩
  match k with
  | 0 => decide
  | k + 1 => exact ⟨fun h => (nomatch h), fun h => (nomatch h)⟩

/-- Two contexts on the hold list: 0 is ACTIVE, and 1 is LEAVING with its counts complete. -/
def heldTwo : State :=
  setContext 1
    { subscriber .leaving with
      registration := .none, held := some ⟨3, 4, 0⟩, leaving := some ⟨.host, true⟩, restrictions := ⟨false, true, false⟩ }
    { heldUp with tkq := { heldUp.tkq with holdList := [0, 1], tickets := [ticket0], nextSeq := 1 } }

theorem test_hyps_TicketReleaseAndInterval_served :
    (Ready 0x51 heldTwo ∧ heldTwo.tkq.tickets.findIdx? (fun u => u.seq == 0) = some 0)
      ∧ (ContextLaw heldTwo ∧ heldTwo.tkq.holdList.Nodup)
      ∧ (heldTwo.tkq.holdList.head? = some 0 ∧ heldTwo.gateCount < 2048)
      ∧ ((heldTwo.context 0).bind Context.held).isSome = true
      ∧ ((heldTwo.context 0).any fun x => x.leaving.any LeavingRecord.complete) = false
      ∧ ((heldTwo.context 1).bind Context.held).isSome = true
      ∧ ((heldTwo.context 1).any fun x => x.leaving.any LeavingRecord.complete) = true := by
  refine ⟨?_, ?_, ?_, ?_, ?_, ?_, ?_⟩ <;> decide +kernel

/-- R174: both are served; 0 keeps its context without held usage, and 1 is closed with HOST and freed. -/
theorem test_serveHoldList_two :
    let t := serveHoldList { heldTwo with tkq := { heldTwo.tkq with tickets := [] } }
    t.tkq.holdList = [] ∧ (t.context 0).map Context.held = some none ∧ t.context 1 = none
      ∧ (t.tkq.tickets.getLast?).map Ticket.reason = some .host := by
  refine ⟨?_, ?_, ?_, ?_⟩ <;> decide +kernel

theorem test_hyps_OutstandingStaysDistinct :
    ∃ s ∈ [holding { subscriber .attaching with accumulator := none, registration := .sent 1 .attach }
        { home with rge := { home.rge with outstanding := [sentEntry false] } }],
      OutstandingLaw s ∧ ContextLaw s := by decide

theorem test_hyps_QueuesStayBounded :
    ∃ s ∈ [{ home with
        ctp :=
          { home.ctp with
            inbound := [⟨1, 0x6D, [], true⟩]
            outbound := [⟨.reply, 1, 0, []⟩]
            sent := 7
            load := some ⟨.tariff, 2, 0, [(0, 1#8)]⟩ } }],
      QueueLaw s ∧ LoadLaw s := by decide

theorem test_hyps_ZoneMatching :
    State.reset.pzu.table = none
    ∧ (∃ t ∈ home.pzu.table, t.zones.Pairwise (fun a b => a.1 < b.1) ∧ ∀ e ∈ t.zones, e.2.covers 0 0 = false)
    ∧ (∃ t ∈ home.pzu.table, t.zones.Pairwise (fun a b => a.1 < b.1) ∧ ∃ e ∈ t.zones, e.2.covers 5405000 1010000 = true) := by
  refine ⟨?_, ?_, ?_⟩ <;> decide

/-- NOTICE with none pending changes nothing but the lamp, so each state, its lamp brought up to date, is a next state. -/
theorem test_hyps_LampFollows :
    (∃ s ∈ [{ home with duc := { home.duc with lamp := ⟨some .fast, .fast, 0⟩ } }],
      exec .notice s = .next (refreshLamp s) ∧ ∃ p ∈ (refreshLamp s).duc.lamp.forced, p = Pattern.fast)
    ∧ (exec .notice home = .next (refreshLamp home) ∧ (refreshLamp home).duc.lamp.forced = none
      ∧ ∀ c : CellId, ((refreshLamp home).cell c).state = .absent)
    ∧ (∃ s ∈ [cellIn .serving home], exec .notice s = .next (refreshLamp s) ∧ (refreshLamp s).duc.lamp.forced = none
      ∧ ((refreshLamp s).cell 0).state = .serving ∧ ∀ l : LinkId, ((refreshLamp s).link l).state ≠ .carrying)
    ∧ (∃ s ∈ [cellIn .serving (linkIn .carrying home)], exec .notice s = .next (refreshLamp s)
      ∧ (refreshLamp s).duc.lamp.forced = none ∧ ((refreshLamp s).cell 0).state = .serving
      ∧ ((refreshLamp s).link 0).state = .carrying) :=
  ⟨⟨_, .head _, rfl, by decide⟩, ⟨rfl, by decide⟩, ⟨_, .head _, rfl, by decide⟩, ⟨_, .head _, rfl, by decide⟩⟩

/-- Every command ends, so that the hypothesis on the next state of the law statements and of LampFollows is met by every state. -/
theorem test_hyps_next (i : Instr) (s : State) : ∃ t, exec i s = .next t :=
  (exec_next i s).elim fun t h => ⟨refreshLamp t, h⟩

end Sys2Proof.Tests
end

section
/-! SUPPORT. A request that is taken at once, and the rules that answer it without regard to the request itself (R182, R183). -/

namespace Sys2Proof.Proofs

open Sys2Proof.Machine

/-! ### Request bodies (R196) -/

/-- Reading big-endian bytes after a number already read. -/
theorem foldl_be (n v a : Nat) :
    (be n v).foldl (fun a b => a * 256 + b.toNat) a = a * 256 ^ n + v % 256 ^ n := by
  induction n generalizing a with
  | zero => simp [be, Nat.mod_one]
  | succ n ih =>
    have hv : v % 256 ^ (n + 1) = v % 256 ^ n + 256 ^ n * (v / 256 ^ n % 256) := Nat.mod_pow_succ
    simp only [be, List.foldl_cons, ih, BitVec.toNat_ofNat, hv, Nat.reducePow]
    ring

/-- The number that a big-endian field holds is the one written, modulo the field's size. -/
theorem beNat_be (n v : Nat) : beNat (be n v) = v % 256 ^ n := by
  rw [beNat, foldl_be, Nat.zero_mul, Nat.zero_add]

/-- A body passes its checks where its length is one its code admits and the code is not SUB_FIND's. -/
theorem bodyFits_of_length {code lo hi : Nat} {body : List Byte} (hl : requestLengths code = some (lo, hi))
    (hc : code ≠ 0x31) (hlo : lo ≤ body.length) (hhi : body.length ≤ hi) : bodyFits code body = true := by
  simp [bodyFits, hl, hc, hlo, hhi]

/-- SUB_FIND's body passes its checks where it holds a SID. -/
theorem bodyFits_subFind {sid : Sid} (h : sidValid sid = true) : bodyFits 0x31 (be 8 sid.toNat) = true := by
  have hs : BitVec.ofNat 64 (beNat (be 8 sid.toNat)) = sid := by
    rw [beNat_be, Nat.mod_eq_of_lt (by simpa using sid.isLt), BitVec.ofNat_toNat, BitVec.setWidth_eq]
  simp [bodyFits, requestLengths, hs, h]

/-! ### The request in the queue while its rule runs (R182) -/

/-- A state with an entry put at the tail of its inbound queue. -/
def arrived (e : InEntry) (s : State) : State := { s with ctp := { s.ctp with inbound := s.ctp.inbound ++ [e] } }

@[simp] theorem arrived_shipTime (e : InEntry) (s : State) : (arrived e s).shipTime = s.shipTime := rfl
@[simp] theorem arrived_settings (e : InEntry) (s : State) : (arrived e s).settings = s.settings := rfl
@[simp] theorem arrived_pzu (e : InEntry) (s : State) : (arrived e s).pzu = s.pzu := rfl
@[simp] theorem arrived_epc (e : InEntry) (s : State) : (arrived e s).epc = s.epc := rfl
@[simp] theorem arrived_lkm (e : InEntry) (s : State) : (arrived e s).lkm = s.lkm := rfl
@[simp] theorem arrived_cap (e : InEntry) (s : State) : (arrived e s).cap = s.cap := rfl
@[simp] theorem arrived_duc (e : InEntry) (s : State) : (arrived e s).duc = s.duc := rfl
@[simp] theorem arrived_sbt (e : InEntry) (s : State) : (arrived e s).sbt = s.sbt := rfl
@[simp] theorem arrived_rge (e : InEntry) (s : State) : (arrived e s).rge = s.rge := rfl
@[simp] theorem arrived_rte (e : InEntry) (s : State) : (arrived e s).rte = s.rte := rfl
@[simp] theorem arrived_tkq (e : InEntry) (s : State) : (arrived e s).tkq = s.tkq := rfl
@[simp] theorem arrived_cfs (e : InEntry) (s : State) : (arrived e s).cfs = s.cfs := rfl
@[simp] theorem arrived_ports (e : InEntry) (s : State) : (arrived e s).ports = s.ports := rfl
@[simp] theorem arrived_mail (e : InEntry) (s : State) : (arrived e s).mail = s.mail := rfl
@[simp] theorem arrived_pending (e : InEntry) (s : State) : (arrived e s).pending = s.pending := rfl
@[simp] theorem arrived_ctp (e : InEntry) (s : State) :
    (arrived e s).ctp = { s.ctp with inbound := s.ctp.inbound ++ [e] } := rfl

/-- A request taken at once: its owner's rule runs with the request waiting at the tail, and its reply is appended (R182, R183). -/
theorem request_arrived {tag code : Nat} {body : List Byte} {act : State → Answer} {s : State} (ht : tag < 256)
    (h : Ready code s) (hb : bodyFits code body = true) :
    request tag code body act s =
      appendReply tag (act (arrived ⟨tag, code, body, false⟩ s)).status (act (arrived ⟨tag, code, body, false⟩ s)).body
        (act (arrived ⟨tag, code, body, false⟩ s)).state :=
  request_ready ht h hb

/-- Where nothing waits before it, the entry at the tail is the one that an answer marks. -/
theorem markAnswered_append_waiting {l : List InEntry} (h : l.find? (fun e => !e.answered) = none) (tag code : Nat)
    (body : List Byte) : markAnswered (l ++ [⟨tag, code, body, false⟩]) = l ++ [⟨tag, code, body, true⟩] := by
  induction l with
  | nil => rfl
  | cons e t ih =>
    have he : e.answered = true := by simpa using List.find?_eq_none.mp h e List.mem_cons_self
    have ht : t.find? (fun e => !e.answered) = none := by simpa [he] using h
    simp [markAnswered, he, ih ht]

/-- The reply to an arrived request, where nothing waited before it. -/
theorem appendReply_arrived {x : State} (h : x.firstWaiting = none) (tag code : Nat) (body : List Byte) (status : Status)
    (reply : List Byte) :
    appendReply tag status reply (arrived ⟨tag, code, body, false⟩ x) = x.replied tag code body status reply := by
  simp only [appendReply, appendOut, arrived, State.replied, markAnswered_append_waiting h]

/-! ### Rules that do not read the inbound queue -/

/-- A rule that answers alike with and without an entry at the tail of the inbound queue, and keeps the queue. -/
structure QueueBlind (act : State → Answer) : Prop where
  arrived (e : InEntry) (s : State) :
    act (arrived e s) = ⟨Proofs.arrived e (act s).state, (act s).status, (act s).body⟩
  inbound (s : State) : (act s).state.ctp.inbound = s.ctp.inbound

/-- A request taken at once, whose rule makes of the state with the request in the queue what `x`, a status and a reply say. -/
theorem replies_of_arrived {tag code : Nat} {body : List Byte} {act : State → Answer} {s x : State} {status : Status}
    {reply : List Byte} (ht : tag < 256) (h : Ready code s) (hb : bodyFits code body = true)
    (hx : x.ctp.inbound = s.ctp.inbound)
    (ha : act (arrived ⟨tag, code, body, false⟩ s) = ⟨arrived ⟨tag, code, body, false⟩ x, status, reply⟩) :
    Replies (done (request tag code body act s)) tag code body status reply x := by
  have hw : x.firstWaiting = none := by
    obtain ⟨hs, -⟩ := h
    simpa [State.firstWaiting, hx] using hs
  have hr : request tag code body act s = x.replied tag code body status reply := by
    rw [request_arrived ht h hb, ha]
    exact appendReply_arrived hw tag code body status reply
  exact congrArg done hr

/-- A request taken at once, whose rule does not read the queue, is answered with what the rule makes of the state before. -/
theorem replies_of_blind {tag code : Nat} {body : List Byte} {act : State → Answer} {s x : State} {status : Status}
    {reply : List Byte} (hact : QueueBlind act) (ht : tag < 256) (h : Ready code s) (hb : bodyFits code body = true)
    (ha : act s = ⟨x, status, reply⟩) :
    Replies (done (request tag code body act s)) tag code body status reply x := by
  have hx : x.ctp.inbound = s.ctp.inbound := by simpa [ha] using hact.inbound s
  exact replies_of_arrived ht h hb hx (by rw [hact.arrived, ha])

end Sys2Proof.Proofs
end

section
/-! SUPPORT. The Position and Zone Unit's operations (R4 to R15): what each makes of a state, and that none reads the inbound queue. -/

namespace Sys2Proof.Proofs

open Sys2Proof.Machine

/-! ### Matching (R5) -/

/-- A present zone that covers a position and has the highest priority of those that do. -/
def IsTop (t : ZoneTable) (lat lon : Int) (e : Nat × ZoneRecord) : Prop :=
  e ∈ t.zones ∧ e.2.covers lat lon = true
    ∧ ∀ g ∈ t.zones, g.2.covers lat lon = true → g.2.priority ≤ e.2.priority

/-- The maximum that a loop finds in a list that is not empty. -/
theorem foldl_max_eq_iff {l : List Nat} (h : l ≠ []) (m : Nat) : l.foldl max 0 = m ↔ m ∈ l ∧ ∀ b ∈ l, b ≤ m := by
  obtain ⟨a, ha⟩ := Option.ne_none_iff_exists'.mp (mt List.max?_eq_none_iff.mp h)
  have hfold : l.foldl max 0 = a := by simp [List.foldl_max, ha]
  rw [← List.max?_eq_some_iff, ha, hfold, Option.some.injEq]

/-- The zones that matching ranks first are those of highest priority among the covering ones. -/
theorem mem_topZones {t : ZoneTable} {lat lon : Int} {z : Nat} :
    z ∈ t.topZones lat lon ↔ ∃ e, IsTop t lat lon e ∧ e.1 = z := by
  have key (e : Nat × ZoneRecord) (he : e ∈ t.zones.filter (fun e => e.2.covers lat lon)) :
      e.2.priority = ((t.zones.filter (fun e => e.2.covers lat lon)).map fun e => e.2.priority).foldl max 0
        ↔ ∀ g ∈ t.zones, g.2.covers lat lon = true → g.2.priority ≤ e.2.priority := by
    have hmem := List.mem_map_of_mem (f := fun e : Nat × ZoneRecord => e.2.priority) he
    rw [eq_comm, foldl_max_eq_iff (List.ne_nil_of_mem hmem), and_iff_right hmem]
    simp only [List.forall_mem_map, List.mem_filter, and_imp]
  simp only [ZoneTable.topZones, List.mem_map, List.mem_filter (p := fun e : Nat × ZoneRecord => e.2.priority == _),
    beq_iff_eq]
  refine exists_congr fun e => and_congr_left fun _ => ?_
  constructor
  · rintro ⟨he, hp⟩
    obtain ⟨hz, hc⟩ := List.mem_filter.mp he
    exact ⟨hz, hc, (key e he).mp hp⟩
  · rintro ⟨hz, hc, hp⟩
    have he : e ∈ t.zones.filter (fun e => e.2.covers lat lon) := List.mem_filter.mpr ⟨hz, hc⟩
    exact ⟨he, (key e he).mpr hp⟩

/-- In a table in rising index order the zones ranked first stand in rising order. -/
theorem topZones_pairwise {t : ZoneTable} (h : t.zones.Pairwise (fun a b => a.1 < b.1)) (lat lon : Int) :
    (t.topZones lat lon).Pairwise (· < ·) :=
  List.pairwise_map.mpr ((h.filter _).filter _)

/-- No zone is ranked first exactly where none covers the position. -/
theorem topZones_eq_nil_iff {t : ZoneTable} {lat lon : Int} :
    t.topZones lat lon = [] ↔ ∀ e ∈ t.zones, e.2.covers lat lon = false := by
  constructor
  · intro h e he
    by_contra hc
    have hmem : e ∈ t.zones.filter (fun e => e.2.covers lat lon) := by simpa [he] using hc
    have hne := List.ne_nil_of_mem (List.mem_map_of_mem (f := fun e : Nat × ZoneRecord => e.2.priority) hmem)
    obtain ⟨hm, -⟩ := (foldl_max_eq_iff hne _).mp rfl
    obtain ⟨f, hf, hp⟩ := List.mem_map.mp hm
    have : f.1 ∈ t.topZones lat lon :=
      List.mem_map_of_mem (List.mem_filter.mpr ⟨hf, by simpa using hp⟩)
    simp [h] at this
  · intro h
    refine List.eq_nil_iff_forall_not_mem.mpr fun z hz => ?_
    obtain ⟨e, ⟨he, hc, -⟩, -⟩ := mem_topZones.mp hz
    simp [h e he] at hc

/-- With a table live, a position inside no present zone names the default zone. -/
theorem matched_of_nil {s : State} {t : ZoneTable} {lat lon : Int} (ht : s.pzu.table = some t)
    (h : t.topZones lat lon = []) : s.matched lat lon = (t.defaultZone, false) := by
  simp [State.matched, ht, h]

/-- With a table live, a position names the first of the zones ranked first, with overlap where there are more. -/
theorem matched_of_cons {s : State} {t : ZoneTable} {lat lon : Int} {z : Nat} {rest : List Nat}
    (ht : s.pzu.table = some t) (h : t.topZones lat lon = z :: rest) : s.matched lat lon = (z, !rest.isEmpty) := by
  simp [State.matched, ht, h]

/-! ### The zone change (R9) -/

/-- Everything a zone change does; the record delivered is UNSET's where the live table has none for the new zone (R9). -/
theorem changeZone_eq (cause : ChangeCause) (zone : ZoneId) (s : State) :
    changeZone cause zone s =
      setCond .zoneChanged
        { s with
          pzu :=
            { s.pzu with
              current := zone
              candidate := none
              confirmCount := 0
              lastChange := some ⟨cause, s.pzu.current, zone, s.shipTime⟩ }
          mail :=
            { s.mail with
              epc := s.mail.epc ++ [.zone]
              lkm := s.mail.lkm ++ [⟨zone, (s.zoneRecord zone).getD unsetZone⟩]
              duc := s.mail.duc ++ [⟨zone, (s.zoneRecord zone).getD unsetZone⟩]
              sbt :=
                if ((s.zoneRecord zone).getD unsetZone).service = true then s.mail.sbt else s.mail.sbt + 1
              rge :=
                if ((s.zoneRecord zone).getD unsetZone).service = true then s.mail.rge + 1 else s.mail.rge } } := rfl

/-! ### FIX (R6, R7) -/

theorem inRange_iff {lat lon : Int} :
    inRange lat lon = true ↔ -9000000 ≤ lat ∧ lat ≤ 9000000 ∧ -18000000 ≤ lon ∧ lon ≤ 18000000 := by
  simp [inRange, and_assoc]

/-- A fix recorded: ZONE_OVERLAP on a tie, and the record, the position state and the stale timer as R6 and R10 give them. -/
theorem recordFix_eq (lat lon : Int) (quality fixTime : Nat) (s : State) :
    recordFix lat lon quality fixTime s =
      { (if (s.matched lat lon).2 = true then setCond .zoneOverlap s else s) with
        pzu :=
          { s.pzu with
            lastFix := some ⟨lat, lon, quality, fixTime, s.shipTime, (s.matched lat lon).1⟩
            position := .fresh
            staleTimer := some (s.shipTime + 1000 * s.settings.staleTime) } } := by
  by_cases h : (s.matched lat lon).2 = true <;> (simp only [recordFix, h, if_true]; rfl)

@[simp] theorem recordFix_current (lat lon : Int) (quality fixTime : Nat) (s : State) :
    (recordFix lat lon quality fixTime s).pzu.current = s.pzu.current := by rw [recordFix_eq]
@[simp] theorem recordFix_candidate (lat lon : Int) (quality fixTime : Nat) (s : State) :
    (recordFix lat lon quality fixTime s).pzu.candidate = s.pzu.candidate := by rw [recordFix_eq]
@[simp] theorem recordFix_confirmCount (lat lon : Int) (quality fixTime : Nat) (s : State) :
    (recordFix lat lon quality fixTime s).pzu.confirmCount = s.pzu.confirmCount := by rw [recordFix_eq]
@[simp] theorem recordFix_settings (lat lon : Int) (quality fixTime : Nat) (s : State) :
    (recordFix lat lon quality fixTime s).settings = s.settings := by
  rw [recordFix_eq]
  split <;> rfl
@[simp] theorem recordFix_inbound (lat lon : Int) (quality fixTime : Nat) (s : State) :
    (recordFix lat lon quality fixTime s).ctp.inbound = s.ctp.inbound := by
  rw [recordFix_eq]
  split <;> rfl

theorem arrived_matched (e : InEntry) (s : State) (lat lon : Int) :
    (arrived e s).matched lat lon = s.matched lat lon := rfl

theorem recordFix_arrived (lat lon : Int) (quality fixTime : Nat) (e : InEntry) (s : State) :
    recordFix lat lon quality fixTime (arrived e s) = arrived e (recordFix lat lon quality fixTime s) := by
  by_cases h : (s.matched lat lon).2 = true <;>
    (simp only [recordFix, arrived_matched, h, if_true]; rfl)

/-- The count that a fix naming a zone brings the candidate to: one more for the candidate, 1 for another zone (R7). -/
def fixCount (zone : ZoneId) (s : State) : Nat :=
  if s.pzu.candidate = some zone then s.pzu.confirmCount + 1 else 1

/-- A zone made the candidate with its count (R7). -/
def withCandidate (zone : ZoneId) (s : State) : State :=
  { s with pzu := { s.pzu with candidate := some zone, confirmCount := fixCount zone s } }

/-- A fix that names the current zone drops the candidate (R7). -/
theorem confirm_current {zone : ZoneId} {s : State} (h : zone = s.pzu.current) : confirm zone s = clearCandidate s :=
  if_pos h

/-- A fix that names another zone, below the threshold, makes or keeps it the candidate (R7). -/
theorem confirm_below {zone : ZoneId} {s : State} (h : zone ≠ s.pzu.current)
    (hlt : fixCount zone s < s.settings.confirmThreshold) : confirm zone s = withCandidate zone s :=
  (if_neg h).trans (if_neg (Nat.not_le.mpr hlt))

/-- A fix that names another zone, at the threshold, is a zone change to it (R7). -/
theorem confirm_reached {zone : ZoneId} {s : State} (h : zone ≠ s.pzu.current)
    (hge : s.settings.confirmThreshold ≤ fixCount zone s) : confirm zone s = changeZone .fix zone (withCandidate zone s) :=
  (if_neg h).trans (if_pos hge)

/-- Everything the confirmation step can do (R7). -/
theorem confirm_cases (zone : ZoneId) (s : State) :
    (zone = s.pzu.current)
      ∨ (zone ≠ s.pzu.current ∧ fixCount zone s < s.settings.confirmThreshold)
      ∨ (zone ≠ s.pzu.current ∧ s.settings.confirmThreshold ≤ fixCount zone s) := by
  rcases eq_or_ne zone s.pzu.current with h | h
  · exact .inl h
  · exact .inr ((lt_or_ge (fixCount zone s) s.settings.confirmThreshold).imp (⟨h, ·⟩) (⟨h, ·⟩))

theorem confirm_arrived (zone : ZoneId) (e : InEntry) (s : State) :
    confirm zone (arrived e s) = arrived e (confirm zone s) := by
  rcases confirm_cases zone s with h | ⟨h, hlt⟩ | ⟨h, hge⟩
  · rw [confirm_current h, confirm_current (s := arrived e s) h]; rfl
  · rw [confirm_below h hlt, confirm_below (s := arrived e s) h hlt]; rfl
  · rw [confirm_reached h hge, confirm_reached (s := arrived e s) h hge]; rfl

theorem confirm_inbound (zone : ZoneId) (s : State) : (confirm zone s).ctp.inbound = s.ctp.inbound := by
  rcases confirm_cases zone s with h | ⟨h, hlt⟩ | ⟨h, hge⟩
  · rw [confirm_current h]; rfl
  · rw [confirm_below h hlt]; rfl
  · rw [confirm_reached h hge]; rfl

/-- FIX's rule refuses what is out of range (R6). -/
theorem fixRule_refused {lat lon : Int} {quality : Nat} (h : ¬(inRange lat lon = true ∧ quality ≤ 2)) (fixTime : Nat)
    (s : State) : fixRule lat lon quality fixTime s = answer .badArg s := by
  have hbad : (!inRange lat lon || decide (2 < quality)) = true := by
    by_contra hc
    exact h (by simpa using hc)
  simp only [fixRule, hbad, if_true]

/-- FIX's rule does nothing with a fix in range of quality 0 (R6). -/
theorem fixRule_invalid {lat lon : Int} (hr : inRange lat lon = true) (fixTime : Nat) (s : State) :
    fixRule lat lon 0 fixTime s = answer .ok s := by
  simp [fixRule, hr]

/-- FIX's rule records a fix in range of quality 1, or of quality 2 while the PZU is forced (R6, R14). -/
theorem fixRule_recorded {lat lon : Int} {quality : Nat} {s : State} (hr : inRange lat lon = true)
    (hq : quality = 1 ∨ (quality = 2 ∧ s.pzu.forced.isSome = true)) (fixTime : Nat) :
    fixRule lat lon quality fixTime s = answer .ok (recordFix lat lon quality (fixTime % 4294967296) s) := by
  rcases hq with rfl | ⟨rfl, hf⟩
  · simp [fixRule, hr]
  · simp [fixRule, hr, Option.isSome_iff_ne_none.mp hf]

/-- FIX's rule records and confirms a fix in range of quality 2 while the PZU is not forced (R6, R7). -/
theorem fixRule_confirmed {lat lon : Int} {s : State} (hr : inRange lat lon = true) (hf : s.pzu.forced = none)
    (fixTime : Nat) :
    fixRule lat lon 2 fixTime s =
      answer .ok (confirm (s.matched lat lon).1 (recordFix lat lon 2 (fixTime % 4294967296) s)) := by
  simp [fixRule, hr, hf]

/-- Everything that decides what FIX's rule does (R6, R14). -/
theorem fixRule_cases (lat lon : Int) (quality : Nat) (s : State) :
    ¬(inRange lat lon = true ∧ quality ≤ 2)
      ∨ (inRange lat lon = true
        ∧ (quality = 0 ∨ (quality = 1 ∨ (quality = 2 ∧ s.pzu.forced.isSome = true))
          ∨ (quality = 2 ∧ s.pzu.forced = none))) := by
  by_cases h : inRange lat lon = true ∧ quality ≤ 2
  · obtain ⟨hr, hq⟩ := h
    refine .inr ⟨hr, ?_⟩
    cases hf : s.pzu.forced <;> simp <;> omega
  · exact .inl h

theorem fixRule_blind (lat lon : Int) (quality fixTime : Nat) : QueueBlind (fixRule lat lon quality fixTime) where
  arrived e s := by
    rcases fixRule_cases lat lon quality s with h | ⟨hr, rfl | hq | ⟨rfl, hf⟩⟩
    · simp only [fixRule_refused h, answer]
    · simp only [fixRule_invalid hr, answer]
    · rw [fixRule_recorded hr hq, fixRule_recorded (s := arrived e s) hr hq, recordFix_arrived]; rfl
    · rw [fixRule_confirmed hr hf, fixRule_confirmed (s := arrived e s) hr hf, recordFix_arrived, confirm_arrived]; rfl
  inbound s := by
    rcases fixRule_cases lat lon quality s with h | ⟨hr, rfl | hq | ⟨rfl, hf⟩⟩
    · simp only [fixRule_refused h, answer]
    · simp only [fixRule_invalid hr, answer]
    · simp only [fixRule_recorded hr hq, answer, recordFix_inbound]
    · simp only [fixRule_confirmed hr hf, answer, confirm_inbound, recordFix_inbound]

/-! ### Forced zones (R13, R15) -/

/-- Forcing an index without a present zone (R13). -/
theorem zoneForce_absent {zone : Nat} {s : State} (h : s.zoneRecord zone = none) :
    zoneForce zone s = answer .notFound s := by
  simp only [zoneForce, h]

/-- Forcing the current zone (R13). -/
theorem zoneForce_current {zone : Nat} {s : State} {z : ZoneRecord} (h : s.zoneRecord zone = some z)
    (hc : zone = s.pzu.current) : zoneForce zone s = answer .ok (setForced (some zone) s) := by
  simp only [zoneForce, h, if_pos hc]

/-- Forcing another present zone (R13). -/
theorem zoneForce_other {zone : Nat} {s : State} {z : ZoneRecord} (h : s.zoneRecord zone = some z)
    (hc : zone ≠ s.pzu.current) :
    zoneForce zone s = answer .ok (changeZone .force zone (setForced (some zone) s)) := by
  simp only [zoneForce, h, if_neg hc]

theorem zoneForce_blind (zone : Nat) : QueueBlind (zoneForce zone) where
  arrived e s := by
    cases hz : s.zoneRecord zone with
    | none => rw [zoneForce_absent hz, zoneForce_absent (s := arrived e s) hz]; rfl
    | some z =>
      rcases eq_or_ne zone s.pzu.current with hc | hc
      · rw [zoneForce_current hz hc, zoneForce_current (s := arrived e s) hz hc]; rfl
      · rw [zoneForce_other hz hc, zoneForce_other (s := arrived e s) hz hc]; rfl
  inbound s := by
    cases hz : s.zoneRecord zone with
    | none => rw [zoneForce_absent hz]; rfl
    | some z =>
      rcases eq_or_ne zone s.pzu.current with hc | hc
      · rw [zoneForce_current hz hc]; rfl
      · rw [zoneForce_other hz hc]; rfl

/-- Releasing where nothing is forced (R15). -/
theorem zoneRelease_unforced {s : State} (h : s.pzu.forced = none) : zoneRelease s = answer .state s := by
  simp only [zoneRelease, h]

/-- Releasing a forced zone (R15). -/
theorem zoneRelease_forced {s : State} {z : Nat} (h : s.pzu.forced = some z) :
    zoneRelease s = answer .ok (setForced none s) := by
  simp only [zoneRelease, h]

theorem zoneRelease_blind : QueueBlind zoneRelease where
  arrived e s := by
    cases hf : s.pzu.forced with
    | none => rw [zoneRelease_unforced hf, zoneRelease_unforced (s := arrived e s) hf]; rfl
    | some z => rw [zoneRelease_forced hf, zoneRelease_forced (s := arrived e s) hf]; rfl
  inbound s := by
    cases hf : s.pzu.forced with
    | none => rw [zoneRelease_unforced hf]; rfl
    | some z => rw [zoneRelease_forced hf]; rfl

/-! ### The stale timer (R11) -/

/-- A stopped stale timer does not expire. -/
theorem execStaleTimerExpiry_stopped {s : State} (h : s.pzu.staleTimer = none) : execStaleTimerExpiry s = done s := by
  simp only [execStaleTimerExpiry, h, atExpiry]

/-- The expiry of a running stale timer, at its deadline. -/
theorem execStaleTimerExpiry_running {s : State} {d : Nat} (h : s.pzu.staleTimer = some d) :
    execStaleTimerExpiry s =
      done
        (setCond .positionStale
          { s with shipTime := max s.shipTime d, pzu := { s.pzu with position := .stale, staleTimer := none } }) := by
  simp only [execStaleTimerExpiry, h, atExpiry]
  rfl

/-! ### A new table (R4) -/

/-- Two records differ for R4 exactly where they are not the same in kind, jurisdiction, service, link kinds and beacon. -/
theorem differs_eq_false_iff {a b : ZoneRecord} :
    a.differs b = false ↔ b.kind = a.kind ∧ b.jurisdiction = a.jurisdiction ∧ b.service = a.service ∧ b.kinds = a.kinds
      ∧ b.beacon = a.beacon := by
  simp only [ZoneRecord.differs, Bool.or_eq_false_iff, bne_eq_false_iff_eq, and_assoc, eq_comm (a := a.kind),
    eq_comm (a := a.jurisdiction), eq_comm (a := a.service), eq_comm (a := a.kinds), eq_comm (a := a.beacon)]

/-- The current index is in the new table with the same fields of R4: the table is live and the candidate dropped. -/
theorem settleTable_same {t : ZoneTable} {s : State} {z : ZoneRecord} (hz : Assoc.get t.zones s.pzu.current = some z)
    (hd : s.zone.differs z = false) :
    settleTable t s = { s with pzu := { s.pzu with table := some t, candidate := none, confirmCount := 0 } } := by
  simp only [settleTable, hz, hd, Bool.false_eq_true, if_false]
  rfl

/-- The current index is in the new table with another field of R4: a zone change to the same index. -/
theorem settleTable_differs {t : ZoneTable} {s : State} {z : ZoneRecord} (hz : Assoc.get t.zones s.pzu.current = some z)
    (hd : s.zone.differs z = true) :
    settleTable t s = changeZone .table s.pzu.current { s with pzu := { s.pzu with table := some t } } := by
  simp only [settleTable, hz, hd, if_true]
  rfl

/-- The current index is gone from the new table: a zone change to the default zone, the forced index kept if it is present. -/
theorem settleTable_gone {t : ZoneTable} {s : State} (hz : Assoc.get t.zones s.pzu.current = none) :
    settleTable t s =
      changeZone .table t.defaultZone
        { s with
          pzu :=
            { s.pzu with
              table := some t
              forced := s.pzu.forced.filter (fun i => (Assoc.get t.zones i).isSome) } } := by
  simp only [settleTable, hz]
  rfl

theorem settleTable_arrived (t : ZoneTable) (e : InEntry) (s : State) :
    settleTable t (arrived e s) = arrived e (settleTable t s) := by
  cases hz : Assoc.get t.zones s.pzu.current with
  | none => rw [settleTable_gone hz, settleTable_gone (s := arrived e s) hz]; rfl
  | some z =>
    cases hd : s.zone.differs z with
    | false => rw [settleTable_same hz hd, settleTable_same (s := arrived e s) hz hd]; rfl
    | true => rw [settleTable_differs hz hd, settleTable_differs (s := arrived e s) hz hd]; rfl

theorem settleTable_inbound (t : ZoneTable) (s : State) : (settleTable t s).ctp.inbound = s.ctp.inbound := by
  cases hz : Assoc.get t.zones s.pzu.current with
  | none => rw [settleTable_gone hz]; rfl
  | some z =>
    cases hd : s.zone.differs z with
    | false => rw [settleTable_same hz hd]
    | true => rw [settleTable_differs hz hd]; rfl

/-- The commit of a whole load that holds a valid zone table: the load closes and the table is settled (R189). -/
theorem loadCommit_zone {s : State} {l : Load} {t : ZoneTable} (hload : s.ctp.load = some l)
    (hlen : l.cells.length = l.total) (hsum : Staging.sum l.cells = l.checksum) (hkind : l.kind = .zone)
    (ht : zoneTableOf (l.cells.map Prod.snd) = some t) :
    loadCommit s = answer .ok (settleTable t (setLoad none s)) := by
  simp [loadCommit, hload, Load.complete, hlen, hsum, hkind, commitTable, ht, answer]

/-- A valid zone table committed is answered OK, with the state that its settling leaves. -/
theorem exec_loadCommit_zone {s : State} {tag : Nat} {l : Load} {t : ZoneTable} (htag : tag < 256) (hready : Ready 0x6B s)
    (hload : s.ctp.load = some l) (hlen : l.cells.length = l.total) (hsum : Staging.sum l.cells = l.checksum)
    (hkind : l.kind = .zone) (ht : zoneTableOf (l.cells.map Prod.snd) = some t) :
    Replies (exec (.loadCommit tag) s) tag 0x6B [] .ok [] (settleTable t (setLoad none s)) := by
  refine replies_of_arrived (act := loadCommit) htag hready rfl (settleTable_inbound t _) ?_
  rw [loadCommit_zone (s := arrived _ s) hload hlen hsum hkind ht]
  exact congrArg (answer .ok) (settleTable_arrived t _ (setLoad none s))

/-! ### The statements of section 1 -/

/-- Settles O28: the zones ranked first are exactly the covering ones of highest priority, in rising order, so the first of
them is the one of lowest index, and a second one is the overlap. -/
theorem zoneMatching : Obligations.ZoneMatching := by
  intro s lat lon
  split
  next ht => simp [State.matched, ht]
  next t ht =>
    intro hsorted
    refine ⟨fun h => matched_of_nil ht (topZones_eq_nil_iff.mpr h), fun e he hc => ?_⟩
    cases htop : t.topZones lat lon with
    | nil => simp [topZones_eq_nil_iff.mp htop e he] at hc
    | cons z rest =>
      have hrise := topZones_pairwise hsorted lat lon
      rw [htop] at hrise
      obtain ⟨hfirst, -⟩ := List.pairwise_cons.mp hrise
      have hmem (w : Nat) : w ∈ z :: rest ↔ ∃ e, IsTop t lat lon e ∧ e.1 = w := htop ▸ mem_topZones
      obtain ⟨f, ⟨hf, hfc, hfmax⟩, hfz⟩ := (hmem z).mp List.mem_cons_self
      have htie (g : Nat × ZoneRecord) (hg : g ∈ t.zones) (hgc : g.2.covers lat lon = true)
          (hp : g.2.priority = f.2.priority) : g.1 = z ∨ g.1 ∈ rest :=
        List.mem_cons.mp ((hmem g.1).mpr ⟨g, ⟨hg, hgc, hp ▸ hfmax⟩, rfl⟩)
      rw [matched_of_cons ht htop]
      refine ⟨f, hf, hfz, hfc, fun g hg hgc => ?_, ?_⟩
      · refine (hfmax g hg hgc).lt_or_eq.imp_right fun hp => ⟨hp, ?_⟩
        rcases htie g hg hgc hp with hz | hr
        · exact (hfz.trans hz.symm).le
        · exact hfz ▸ (hfirst g.1 hr).le
      · constructor
        · intro hover
          obtain ⟨w, hw⟩ := List.exists_mem_of_ne_nil rest (by simpa using hover)
          obtain ⟨g, ⟨hg, hgc, hgmax⟩, rfl⟩ := (hmem w).mp (List.mem_cons_of_mem _ hw)
          exact ⟨g, hg, hfz ▸ (hfirst g.1 hw).ne', hgc, le_antisymm (hfmax g hg hgc) (hgmax f hf hfc)⟩
        · rintro ⟨g, hg, hne, hgc, hp⟩
          have hr := (htie g hg hgc hp).resolve_left (hfz ▸ hne)
          simpa using List.ne_nil_of_mem hr

/-- Settles O23, by the three cases of the settling: the current index present and the same, present and different, and gone. -/
theorem zoneTableCommit : Obligations.ZoneTableCommit := by
  intro s tag l t htag hready hload hlen hsum hkind ht
  have hcommit := exec_loadCommit_zone htag hready hload hlen hsum hkind ht
  split
  next z hz =>
    constructor
    · intro hsame
      rwa [settleTable_same (s := setLoad none s) hz (differs_eq_false_iff.mpr hsame)] at hcommit
    · intro hother
      have hd : s.zone.differs z = true := by simpa [← differs_eq_false_iff] using hother
      rwa [settleTable_differs (s := setLoad none s) hz hd] at hcommit
  next hz => rwa [settleTable_gone (s := setLoad none s) hz] at hcommit

/-- A FIX that is taken is answered with what its rule makes of the state. -/
theorem exec_fix {s x : State} {tag : Nat} {lat lon : Int} {quality fixTime : Nat} {status : Status} (htag : tag < 256)
    (hready : Ready 0x01 s) (h : fixRule lat lon quality fixTime s = answer status x) :
    Replies (exec (.fix tag lat lon quality fixTime) s) tag 0x01 (fixBody lat lon quality fixTime) status [] x :=
  replies_of_blind (fixRule_blind lat lon quality fixTime) htag hready
    (bodyFits_of_length rfl (by decide) (by simp) (by simp)) h

/-- Settles O29, by the fix's range and quality, and then by the zone it names and the threshold. -/
theorem fixes : Obligations.Fixes := by
  intro s tag lat lon quality fixTime htag _ htime hready
  have hmod : fixTime % 4294967296 = fixTime := Nat.mod_eq_of_lt htime
  have hconfirm (hf : s.pzu.forced = none) (hr : -9000000 ≤ lat ∧ lat ≤ 9000000 ∧ -18000000 ≤ lon ∧ lon ≤ 18000000) :=
    exec_fix htag hready (fixRule_confirmed (inRange_iff.mpr hr) hf fixTime)
  simp only [hmod] at hconfirm
  refine ⟨fun h => exec_fix htag hready (fixRule_refused ?_ fixTime s), ?_, ?_, ?_, ?_, ?_⟩
  · rwa [inRange_iff, and_assoc, and_assoc, and_assoc]
  · rintro hr rfl
    exact exec_fix htag hready (fixRule_invalid (inRange_iff.mpr hr) fixTime s)
  · intro hr hq
    have hrecord := exec_fix htag hready (fixRule_recorded (inRange_iff.mpr hr) hq fixTime)
    rw [hmod, recordFix_eq] at hrecord
    cases hover : (s.matched lat lon).2 <;> simp only [hover] at hrecord ⊢ <;> exact hrecord
  · intro hf hr hcur
    have hfix := hconfirm hf hr
    rw [confirm_current (by simpa using hcur), recordFix_eq] at hfix
    exact hfix
  · intro hf hr hne hlt
    have hfix := hconfirm hf hr
    rw [confirm_below (by simpa using hne) (by simpa [fixCount] using hlt)] at hfix
    rw [recordFix_eq] at hfix
    exact hfix
  · intro hf hr hne hge
    have hfix := hconfirm hf hr
    rw [confirm_reached (by simpa using hne) (by simpa [fixCount] using hge), changeZone_eq, recordFix_eq] at hfix
    cases hover : (s.matched lat lon).2 <;> simp only [hover] at hfix ⊢ <;> exact hfix

/-- A ZONE_FORCE that is taken is answered with what its rule makes of the state. -/
theorem exec_zoneForce {s x : State} {tag zone : Nat} {status : Status} (htag : tag < 256) (hready : Ready 0x02 s)
    (h : zoneForce zone s = answer status x) :
    Replies (exec (.zoneForce tag zone) s) tag 0x02 (be 1 zone) status [] x :=
  replies_of_blind (zoneForce_blind zone) htag hready (bodyFits_of_length rfl (by decide) (by simp) (by simp)) h

/-- A ZONE_RELEASE that is taken is answered with what its rule makes of the state. -/
theorem exec_zoneRelease {s x : State} {tag : Nat} {status : Status} (htag : tag < 256) (hready : Ready 0x03 s)
    (h : zoneRelease s = answer status x) : Replies (exec (.zoneRelease tag) s) tag 0x03 [] status [] x :=
  replies_of_blind zoneRelease_blind htag hready rfl h

/-- Settles O30, command by command: forcing an absent, the current and another zone, the release, and the stale timer. -/
theorem forcedZonesAndStalePosition : Obligations.ForcedZonesAndStalePosition := by
  intro s tag zone htag _
  refine ⟨fun hready hz => exec_zoneForce htag hready (zoneForce_absent hz), fun hready hz hcur => ?_,
    fun hready z hz hne => ?_, fun hready => ?_, ?_⟩
  · obtain ⟨z, hz⟩ := Option.isSome_iff_exists.mp hz
    exact exec_zoneForce htag hready (zoneForce_current hz hcur)
  · have hrecord : (setForced (some zone) s).zoneRecord zone = some z := hz
    have hforce := exec_zoneForce htag hready (zoneForce_other hz hne)
    rw [changeZone_eq, hrecord] at hforce
    exact hforce
  · split
    next hf => exact exec_zoneRelease htag hready (zoneRelease_unforced hf)
    next z hf => exact exec_zoneRelease htag hready (zoneRelease_forced hf)
  · split
    next h => exact execStaleTimerExpiry_stopped h
    next d h => exact execStaleTimerExpiry_running h

end Sys2Proof.Proofs
end

section
/-! SUPPORT. The queries (R16, R42, R74, R117, R173, R194): what each rule answers in each case, and the settling of O60. -/

namespace Sys2Proof.Proofs

open Sys2Proof.Machine

/-! ### What the rules answer -/

theorem linkAt_val (l : LinkId) : linkAt l.val = some l := dif_pos l.isLt

theorem linkAt_above {n : Nat} (h : 5 < n) : linkAt n = none := dif_neg (by omega)

theorem cellAt_val (c : CellId) : cellAt c.val = some c := dif_pos c.isLt

theorem cellAt_above {n : Nat} (h : 23 < n) : cellAt n = none := dif_neg (by omega)

theorem zoneQuery_absent {z : Nat} {s : State} (h : s.zoneRecord z = none) :
    zoneQuery (some z) s = answer .notFound s := by
  simp only [zoneQuery, h]

theorem zoneQuery_present {z : Nat} {s : State} {r : ZoneRecord} (h : s.zoneRecord z = some r) :
    zoneQuery (some z) s = ⟨s, .ok, r.bytes⟩ := by
  simp only [zoneQuery, h]

theorem linkQuery_link (l : LinkId) (s : State) : linkQuery l.val s = ⟨s, .ok, s.linkStatus l⟩ := by
  simp only [linkQuery, linkAt_val]

theorem linkQuery_above {n : Nat} (h : 5 < n) (s : State) : linkQuery n s = answer .badArg s := by
  simp only [linkQuery, linkAt_above h]

/-- CELL_QUERY of one cell: read, read and cleared, or refused, as the clear argument says (R74). -/
theorem cellQuery_cell (c : CellId) (clear : Nat) (s : State) :
    cellQuery c.val clear s =
      if clear = 0 then ⟨s, .ok, s.cellStatus c⟩
      else if clear = 1 then ⟨setCell c { s.cell c with badFrames := 0 } s, .ok, s.cellStatus c⟩
      else answer .badArg s := by
  have hc : c.val ≠ 255 := by omega
  simp only [cellQuery, cellAt_val, if_neg hc, modCell]

theorem cellQuery_above {n : Nat} (h : 23 < n) (hn : n ≠ 255) (clear : Nat) (s : State) :
    cellQuery n clear s = answer .badArg s := by
  simp only [cellQuery, cellAt_above h, if_neg hn]

theorem subQuery_above {k : Nat} (h : 2047 < k) (hk : k ≠ 65535) (s : State) : subQuery k s = answer .badArg s := by
  simp only [subQuery, if_neg hk, if_pos h]

theorem subQuery_free {k : Nat} {s : State} (h : k ≤ 2047) (hx : s.context k = none) :
    subQuery k s = ⟨s, .ok, [0#8]⟩ := by
  have hk : k ≠ 65535 := by omega
  simp only [subQuery, if_neg hk, if_neg (Nat.not_lt.mpr h), hx]
  rfl

theorem subQuery_used {k : Nat} {s : State} {x : Context} (h : k ≤ 2047) (hx : s.context k = some x) :
    subQuery k s = ⟨s, .ok, s.contextBytes k x⟩ := by
  have hk : k ≠ 65535 := by omega
  simp only [subQuery, if_neg hk, if_neg (Nat.not_lt.mpr h), hx]

theorem subFind_absent {sid : Sid} {s : State} (h : s.holderOf sid = none) : subFind sid s = answer .notFound s := by
  simp only [subFind, h]

theorem subFind_present {sid : Sid} {s : State} {e : Nat × Context} (h : s.holderOf sid = some e) :
    subFind sid s = ⟨s, .ok, be 2 e.1 ++ be 1 e.2.state.number⟩ := by
  simp only [subFind, h]

/-- TICKET_READ of 1 to 16 tickets: the number queued, the number read, and the tickets read (R173). -/
theorem ticketRead_listed {n : Nat} (h : 1 ≤ n ∧ n ≤ 16) (s : State) :
    ticketRead n s =
      ⟨s, .ok,
        be 2 s.tkq.tickets.length ++ be 1 (min n s.tkq.tickets.length) ++ (s.tkq.tickets.take n).flatMap Ticket.bytes⟩ := by
  simp only [ticketRead, if_pos h, List.length_take]

theorem ticketRead_unlisted {n : Nat} (h : ¬(1 ≤ n ∧ n ≤ 16)) (s : State) : ticketRead n s = answer .badArg s := by
  simp only [ticketRead, if_neg h]

theorem statusRead_above {n : Nat} (h : 5 < n) (s : State) : statusRead n s = answer .badArg s := by
  obtain ⟨m, rfl⟩ := Nat.exists_eq_add_of_le' h
  rfl

/-! ### The queries taken -/

/-- A query taken at once: its rule, run with the query in the queue, leaves the state and gives a status and a reply. -/
theorem replies_of_query {tag code : Nat} {body : List Byte} {act : State → Answer} {s : State} {status : Status}
    {reply : List Byte} (ht : tag < 256) (h : Ready code s) (hb : bodyFits code body = true)
    (ha : act (arrived ⟨tag, code, body, false⟩ s) = ⟨arrived ⟨tag, code, body, false⟩ s, status, reply⟩) :
    Replies (done (request tag code body act s)) tag code body status reply s :=
  replies_of_arrived ht h hb rfl ha

theorem exec_zoneQuery {s : State} {tag n : Nat} {status : Status} {reply : List Byte} (ht : tag < 256)
    (h : Ready 0x04 s) (ha : ∀ e, zoneQuery (some n) (arrived e s) = ⟨arrived e s, status, reply⟩) :
    Replies (exec (.zoneQuery tag (some n)) s) tag 0x04 (be 1 n) status reply s :=
  replies_of_query ht h (bodyFits_of_length rfl (by decide) (by simp) (by simp)) (ha _)

theorem exec_linkQuery {s : State} {tag n : Nat} {status : Status} {reply : List Byte} (ht : tag < 256)
    (h : Ready 0x13 s) (ha : ∀ e, linkQuery n (arrived e s) = ⟨arrived e s, status, reply⟩) :
    Replies (exec (.linkQuery tag n) s) tag 0x13 (be 1 n) status reply s :=
  replies_of_query ht h (bodyFits_of_length rfl (by decide) (by simp) (by simp)) (ha _)

theorem exec_cellQuery {s x : State} {tag n clear : Nat} {status : Status} {reply : List Byte} (ht : tag < 256)
    (h : Ready 0x22 s) (hx : x.ctp.inbound = s.ctp.inbound)
    (ha : ∀ e, cellQuery n clear (arrived e s) = ⟨arrived e x, status, reply⟩) :
    Replies (exec (.cellQuery tag n clear) s) tag 0x22 (be 1 n ++ be 1 clear) status reply x :=
  replies_of_arrived ht h (bodyFits_of_length rfl (by decide) (by simp) (by simp)) hx (ha _)

theorem exec_subQuery {s : State} {tag k : Nat} {status : Status} {reply : List Byte} (ht : tag < 256)
    (h : Ready 0x30 s) (ha : ∀ e, subQuery k (arrived e s) = ⟨arrived e s, status, reply⟩) :
    Replies (exec (.subQuery tag k) s) tag 0x30 (be 2 k) status reply s :=
  replies_of_query ht h (bodyFits_of_length rfl (by decide) (by simp) (by simp)) (ha _)

theorem exec_subFind {s : State} {tag : Nat} {sid : Sid} {status : Status} {reply : List Byte} (ht : tag < 256)
    (hs : sidValid sid = true) (h : Ready 0x31 s)
    (ha : ∀ e, subFind sid (arrived e s) = ⟨arrived e s, status, reply⟩) :
    Replies (exec (.subFind tag sid) s) tag 0x31 (be 8 sid.toNat) status reply s :=
  replies_of_query ht h (bodyFits_subFind hs) (ha _)

theorem exec_ticketRead {s : State} {tag n : Nat} {status : Status} {reply : List Byte} (ht : tag < 256)
    (h : Ready 0x50 s) (ha : ∀ e, ticketRead n (arrived e s) = ⟨arrived e s, status, reply⟩) :
    Replies (exec (.ticketRead tag n) s) tag 0x50 (be 1 n) status reply s :=
  replies_of_query ht h (bodyFits_of_length rfl (by decide) (by simp) (by simp)) (ha _)

theorem exec_statusRead {s : State} {tag n : Nat} {status : Status} {reply : List Byte} (ht : tag < 256)
    (h : Ready 0x65 s)
    (ha : statusRead n (arrived ⟨tag, 0x65, be 1 n, false⟩ s) = ⟨arrived ⟨tag, 0x65, be 1 n, false⟩ s, status, reply⟩) :
    Replies (exec (.statusRead tag n) s) tag 0x65 (be 1 n) status reply s :=
  replies_of_query ht h (bodyFits_of_length rfl (by decide) (by simp) (by simp)) ha

/-- Settles O60, query by query: each clause is a case of its rule, run with the query itself in the inbound queue. -/
theorem queries : Obligations.Queries := by
  intro s tag n l c sid clear k ht _ _ _ hsid
  refine ⟨fun h => ⟨replies_of_query ht h rfl rfl, ?_⟩,
    fun h => ⟨exec_linkQuery ht h fun e => linkQuery_link l (arrived e s),
      fun hn => exec_linkQuery ht h fun e => linkQuery_above hn (arrived e s)⟩,
    fun h => ⟨exec_cellQuery ht h rfl fun _ => rfl, exec_cellQuery ht h rfl fun e => cellQuery_cell c 0 (arrived e s),
      exec_cellQuery ht h rfl fun e => cellQuery_cell c 1 (arrived e s), fun hclear => ?_,
      fun hn hne => exec_cellQuery ht h rfl fun e => cellQuery_above hn hne clear (arrived e s)⟩,
    fun h => ⟨?_, fun hk hne => exec_subQuery ht h fun e => subQuery_above hk hne (arrived e s), fun hk => ?_⟩,
    fun h => ?_, fun h => ?_,
    fun h => ⟨exec_statusRead ht h rfl, exec_statusRead ht h rfl, exec_statusRead ht h rfl, exec_statusRead ht h rfl,
      exec_statusRead ht h rfl, exec_statusRead ht h rfl, fun hn => exec_statusRead ht h (statusRead_above hn _)⟩,
    fun h => replies_of_query ht h rfl rfl⟩
  · split
    next hz => exact exec_zoneQuery ht h fun e => zoneQuery_absent (s := arrived e s) hz
    next z hz => exact exec_zoneQuery ht h fun e => zoneQuery_present (s := arrived e s) hz
  · refine exec_cellQuery ht h rfl fun e => ?_
    rw [cellQuery_cell, if_neg (by omega), if_neg (by omega)]
    rfl
  · rintro rfl
    exact exec_subQuery ht h fun _ => rfl
  · split
    next hx => exact exec_subQuery ht h fun e => subQuery_free (s := arrived e s) hk hx
    next x hx => exact exec_subQuery ht h fun e => subQuery_used (s := arrived e s) hk hx
  · split
    next hf => exact exec_subFind ht hsid h fun e => subFind_absent (s := arrived e s) hf
    next r hf => exact exec_subFind ht hsid h fun e => subFind_present (s := arrived e s) hf
  · split
    next hn => exact exec_ticketRead ht h fun e => ticketRead_listed hn (arrived e s)
    next hn => exact exec_ticketRead ht h fun e => ticketRead_unlisted hn (arrived e s)

end Sys2Proof.Proofs
end

section
/-! SUPPORT. The Capacity Arbiter's division of the pool (R45 to R50): the level, the rotation, what a recomputation makes of a
state, and the settling of O39. -/

namespace Sys2Proof.Proofs

open Sys2Proof.Machine

/-! ### The serving cells -/

theorem mem_allCells (c : CellId) : c ∈ allCells := by revert c; decide

theorem allCells_nodup : allCells.Nodup := by decide

theorem mem_serving {s : State} {c : CellId} : c ∈ s.serving ↔ (s.cell c).state = .serving := by
  simp [State.serving, mem_allCells]

theorem serving_nodup (s : State) : s.serving.Nodup := allCells_nodup.filter _

/-- A sum over the serving cells runs over all cells where the others add nothing. -/
theorem sum_serving {s : State} {f : CellId → Nat} (h : ∀ c, (s.cell c).state ≠ .serving → f c = 0) :
    (s.serving.map f).sum = (allCells.map f).sum := by
  unfold State.serving
  generalize allCells = l
  induction l with
  | nil => rfl
  | cons c t ih =>
    by_cases hc : (s.cell c).state = .serving
    · simp [hc, ih]
    · simp [hc, ih, h c hc]

/-! ### The level (R48 step 1) -/

theorem levelSum_zero (s : State) : s.levelSum 0 = 0 := by simp [State.levelSum]

/-- The serving cells whose demand exceeds a level. -/
def aboveLevel (s : State) (n : Nat) : List CellId := s.serving.filter (fun c => n < (s.cell c).demand)

/-- Each cell above a level adds one unit to the sum at the next. -/
theorem levelSum_succ (s : State) (n : Nat) : s.levelSum (n + 1) = s.levelSum n + (aboveLevel s n).length := by
  unfold State.levelSum aboveLevel
  induction s.serving with
  | nil => rfl
  | cons c t ih =>
    by_cases hc : n < (s.cell c).demand
    · simp only [List.map_cons, List.sum_cons, hc, decide_true, List.filter_cons_of_pos, List.length_cons, ih]
      omega
    · simp only [List.map_cons, List.sum_cons, hc, decide_false, Bool.false_eq_true, not_false_eq_true,
        List.filter_cons_of_neg, ih]
      omega

theorem levelSum_mono (s : State) : Monotone s.levelSum :=
  monotone_nat_of_le_succ fun n => by rw [levelSum_succ]; exact Nat.le_add_right _ _

/-- No serving cell's demand is above the largest. -/
theorem demand_le_topDemand {s : State} {c : CellId} (h : c ∈ s.serving) : (s.cell c).demand ≤ s.topDemand := by
  have hm : (s.cell c).demand ∈ s.serving.map fun c => (s.cell c).demand := List.mem_map_of_mem h
  obtain ⟨-, hmax⟩ := (foldl_max_eq_iff (List.ne_nil_of_mem hm) _).mp rfl
  exact hmax _ hm

theorem levelSum_topDemand (s : State) : s.levelSum s.topDemand = s.totalDemand :=
  congrArg List.sum (List.map_congr_left fun _ hc => min_eq_left (demand_le_topDemand hc))

theorem levelSum_le_totalDemand (s : State) (n : Nat) : s.levelSum n ≤ s.totalDemand :=
  List.sum_le_sum fun _ _ => min_le_left _ _

/-- The level's sum fits the pool. -/
theorem levelSum_grantLevel_le (s : State) : s.levelSum s.grantLevel ≤ s.cap.pool :=
  Nat.findGreatest_spec (P := fun l => s.levelSum l ≤ s.cap.pool) (Nat.zero_le _) (by simp [levelSum_zero])

/-- Where the demand exceeds the pool, so does the sum at the level after. -/
theorem pool_lt_levelSum_succ {s : State} (h : s.cap.pool < s.totalDemand) :
    s.cap.pool < s.levelSum (s.grantLevel + 1) := by
  have hfit := levelSum_grantLevel_le s
  have hne : s.grantLevel ≠ s.topDemand := fun he => by
    rw [he, levelSum_topDemand] at hfit
    omega
  have hlt : s.grantLevel < s.topDemand := lt_of_le_of_ne (Nat.findGreatest_le _) hne
  exact not_le.mp (Nat.findGreatest_is_greatest (P := fun l => s.levelSum l ≤ s.cap.pool) (Nat.lt_succ_self _) hlt)

/-- A level whose sum fits the pool while the next does not is the one the division takes. -/
theorem grantLevel_eq {s : State} {n : Nat} (hle : s.levelSum n ≤ s.cap.pool) (hlt : s.cap.pool < s.levelSum (n + 1)) :
    s.grantLevel = n := by
  have hg := levelSum_grantLevel_le s
  have hg' := pool_lt_levelSum_succ (lt_of_lt_of_le hlt (levelSum_le_totalDemand s _))
  have h1 : ¬ s.grantLevel < n := fun h => absurd (levelSum_mono s (show _ + 1 ≤ _ from h)) (by omega)
  have h2 : ¬ n < s.grantLevel := fun h => absurd (levelSum_mono s (show _ + 1 ≤ _ from h)) (by omega)
  omega

/-! ### The rotation (R48 steps 2 and 3) -/

/-- The rotation reorders the cells above the level. -/
theorem rotation_perm (s : State) (n : Nat) : (s.rotation n).Perm (aboveLevel s n) := by
  have h := List.filter_append_perm (fun c : CellId => decide (s.cap.pointer ≤ c.val)) (aboveLevel s n)
  simpa only [State.rotation, aboveLevel, ← decide_not, not_le] using h

theorem rotation_nodup (s : State) (n : Nat) : (s.rotation n).Nodup :=
  (rotation_perm s n).nodup_iff.mpr ((serving_nodup s).filter _)

theorem mem_rotation {s : State} {n : Nat} {c : CellId} :
    c ∈ s.rotation n ↔ (s.cell c).state = .serving ∧ n < (s.cell c).demand := by
  simp [(rotation_perm s n).mem_iff, aboveLevel, mem_serving]

/-- The units that a level leaves over. -/
def leftover (s : State) : Nat := s.cap.pool - s.levelSum s.grantLevel

/-- Fewer units are left over than cells stand above the level. -/
theorem leftover_lt {s : State} (h : s.cap.pool < s.totalDemand) :
    leftover s < (aboveLevel s s.grantLevel).length := by
  have hfit := levelSum_grantLevel_le s
  have hlt := pool_lt_levelSum_succ h
  rw [levelSum_succ] at hlt
  unfold leftover
  omega

theorem division_none {s : State} (h : s.totalDemand ≤ s.cap.pool) : s.division = none := if_pos h

theorem division_some {s : State} (h : s.cap.pool < s.totalDemand) :
    s.division = some (s.grantLevel, (s.rotation s.grantLevel).take (leftover s)) := if_neg (not_le.mpr h)

/-! ### The shares -/

theorem share_not_serving {s : State} {c : CellId} (h : (s.cell c).state ≠ .serving) (d : Option (Nat × List CellId)) :
    s.share d c = 0 := if_pos h

theorem share_none {s : State} {c : CellId} (h : (s.cell c).state = .serving) :
    s.share none c = (s.cell c).demand := if_neg (not_not.mpr h)

theorem share_some {s : State} {c : CellId} (h : (s.cell c).state = .serving) (n : Nat) (extra : List CellId) :
    s.share (some (n, extra)) c = min (s.cell c).demand n + (if c ∈ extra then 1 else 0) := by
  simp [State.share, h]

/-- One unit for each of some serving cells comes to their number. -/
theorem sum_one_each {s : State} {extra : List CellId} (hn : extra.Nodup) (hs : ∀ c ∈ extra, c ∈ s.serving) :
    (s.serving.map fun c => if c ∈ extra then 1 else 0).sum = extra.length := by
  have hperm : (s.serving.filter (· ∈ extra)).Perm extra :=
    (List.perm_ext_iff_of_nodup ((serving_nodup s).filter _) hn).mpr fun c => by
      simpa using fun hc => hs c hc
  rw [← hperm.length_eq]
  induction s.serving with
  | nil => rfl
  | cons c t ih => by_cases hc : c ∈ extra <;> simp [hc, ih]; omega

/-- The shares that a recomputation gives sum to the demand where it fits the pool, and else to the pool. -/
theorem sum_shares (s : State) :
    (allCells.map (s.share s.division)).sum = if s.totalDemand ≤ s.cap.pool then s.totalDemand else s.cap.pool := by
  rw [← sum_serving fun c hc => share_not_serving hc _]
  split
  next h =>
    rw [division_none h]
    exact congrArg List.sum (List.map_congr_left fun c hc => share_none (mem_serving.mp hc))
  next h =>
    have hlt := not_le.mp h
    have hshare : s.serving.map (s.share s.division)
        = s.serving.map fun c => min (s.cell c).demand s.grantLevel
            + if c ∈ (s.rotation s.grantLevel).take (leftover s) then 1 else 0 := by
      rw [division_some hlt]
      exact List.map_congr_left fun c hc => share_some (mem_serving.mp hc) _ _
    have hextra : (s.serving.map fun c => if c ∈ (s.rotation s.grantLevel).take (leftover s) then 1 else 0).sum
        = ((s.rotation s.grantLevel).take (leftover s)).length :=
      sum_one_each ((rotation_nodup s _).sublist (List.take_sublist _ _)) fun c hc =>
        mem_serving.mpr (mem_rotation.mp (List.mem_of_mem_take hc)).1
    have hlen : ((s.rotation s.grantLevel).take (leftover s)).length = leftover s := by
      rw [List.length_take, (rotation_perm s _).length_eq]
      exact min_eq_left (leftover_lt hlt).le
    have hfit := levelSum_grantLevel_le s
    rw [hshare, List.sum_map_add, hextra, hlen]
    show s.levelSum s.grantLevel + leftover s = s.cap.pool
    unfold leftover
    omega

/-! ### What a recomputation makes of a state (R47 to R50) -/

/-- The cells that a recomputation sends a GRANT, those whose grant falls before those whose grant rises (R50). -/
def regrantedCells (s : State) : List CellId :=
  s.serving.filter (fun c => s.share s.division c < (s.cell c).grant)
    ++ s.serving.filter (fun c => (s.cell c).grant < s.share s.division c)

/-- A loop of frames to cells that are joined appends them all. -/
theorem forEach_sendDeck {cells : List CellId} {f : CellId → DeckFrame} {s : State}
    (h : ∀ c ∈ cells, (s.cell c).state.joined = true) :
    forEach cells (fun c => sendDeck c (f c)) s
      = { s with ports := { s.ports with deck := s.ports.deck ++ cells.map fun c => (c, f c) } } := by
  induction cells generalizing s with
  | nil => simp
  | cons c t ih =>
    have hc : sendDeck c (f c) s = emitDeck c (f c) s := by simp [sendDeck, h c List.mem_cons_self]
    have ht : ∀ d ∈ t, ((emitDeck c (f c) s).cell d).state.joined = true := fun d hd => h d (List.mem_cons_of_mem _ hd)
    rw [forEach_cons, hc, ih ht]
    simp [emitDeck]

@[simp] theorem storeGrants_cell (d : Option (Nat × List CellId)) (s : State) (c : CellId) :
    (storeGrants d s).cell c = { s.cell c with grant := s.share d c } := get_ofFn _ c

/-- The whole of a recomputation: the shares stored, the pointer moved, the flag cleared, and the GRANT frames. -/
theorem recompute_eq (s : State) :
    recompute s =
      { storeGrants s.division s with
        ports :=
          { s.ports with
            deck := s.ports.deck ++ (regrantedCells s).map fun c => (c, .grant (s.share s.division c)) } } := by
  refine forEach_sendDeck fun c hc => ?_
  have hserving : (s.cell c).state = .serving := by
    rw [← mem_serving]
    rcases List.mem_append.mp hc with h | h <;> exact (List.mem_filter.mp h).1
  simp [hserving, CellState.joined]

@[simp] theorem recompute_cell (s : State) (c : CellId) :
    (recompute s).cell c = { s.cell c with grant := s.share s.division c } := by
  rw [recompute_eq]
  exact storeGrants_cell _ _ _

@[simp] theorem recompute_cap (s : State) :
    (recompute s).cap = { s.cap with pointer := nextPointer s.cap.pointer s.division, demandChanged := false } := by
  rw [recompute_eq]
  rfl

theorem recompute_deck (s : State) :
    (recompute s).ports.deck
      = s.ports.deck ++ (regrantedCells s).map fun c => (c, .grant (s.share s.division c)) := by
  rw [recompute_eq]

@[simp] theorem recompute_retuneList (s : State) : (recompute s).duc.retuneList = s.duc.retuneList := by
  simp only [recompute_eq, storeGrants]

/-- A recomputation changes the grants, the pointer, the flag and the deck port's output, and nothing else (R49). -/
theorem recompute_frame (s : State) :
    recompute s =
      { s with
        cap := (recompute s).cap
        duc := { s.duc with cells := (recompute s).duc.cells }
        ports := { s.ports with deck := (recompute s).ports.deck } } := by
  simp only [recompute_eq, storeGrants]

@[simp] theorem recompute_settings (s : State) : (recompute s).settings = s.settings := by rw [recompute_frame]
@[simp] theorem recompute_shipTime (s : State) : (recompute s).shipTime = s.shipTime := by rw [recompute_frame]

theorem recompute_onlyGrants (s : State) : OnlyGrants s (recompute s) := by
  refine ⟨?_, fun c => by simp⟩
  simp only [recompute_eq, storeGrants]

/-- A recomputation's grants sum to the demand where it fits the pool, and else to the pool. -/
theorem grantSum_recompute (s : State) :
    (recompute s).grantSum = if s.totalDemand ≤ s.cap.pool then s.totalDemand else s.cap.pool := by
  simp only [State.grantSum, recompute_cell]
  exact sum_shares s

/-! ### O39 -/

/-- The GRANT frames in the words of O39. -/
theorem recompute_deck_filter (s : State) :
    (recompute s).ports.deck =
      s.ports.deck
        ++ (allCells.filter (fun c => (s.cell c).state == .serving && decide (((recompute s).cell c).grant < (s.cell c).grant))
            ++ allCells.filter
              (fun c => (s.cell c).state == .serving && decide ((s.cell c).grant < ((recompute s).cell c).grant))).map
          (fun c => (c, DeckFrame.grant ((recompute s).cell c).grant)) := by
  simp only [recompute_deck, regrantedCells, recompute_cell, State.serving, List.filter_filter, Bool.and_comm]

/-- Settles O39: the two cases of the division, the level being the only one that fits. -/
theorem grantDivision : Obligations.GrantDivision := by
  intro s level
  refine ⟨⟨recompute_onlyGrants s, by simp⟩, fun c hc => by simp [share_not_serving hc], ?_, ?_, recompute_deck_filter s⟩
  · intro (hfit : s.totalDemand ≤ s.cap.pool)
    refine ⟨fun c hc => ?_, ?_, ?_⟩
    · rw [recompute_cell, division_none hfit]
      exact share_none hc
    · simp [division_none hfit, nextPointer]
    · rw [grantSum_recompute, if_pos hfit]
      rfl
  · intro (hlt : s.cap.pool < s.totalDemand) (hle : s.levelSum level ≤ s.cap.pool) hnext
    obtain rfl := grantLevel_eq hle hnext
    refine ⟨fun c hc => ?_, ?_, leftover_lt hlt, ?_⟩
    · rw [recompute_cell, division_some hlt]
      exact share_some hc _ _
    · simp only [recompute_cap, division_some hlt]
      rfl
    · rw [grantSum_recompute, if_neg (not_le.mpr hlt)]

end Sys2Proof.Proofs
end

section
/-! SUPPORT. The reserve, the capacity handed over, the regrant timer, the CAP's restart and the heartbeat (R45, R46, R54, R56,
R66), and the settling of O25, O40 and O42. -/

namespace Sys2Proof.Proofs

open Sys2Proof.Machine

/-! ### Taking a capacity (R45, R46) -/

/-- A capacity taken leaves the grants where the pool stays, and else brings a recomputation. -/
theorem takeCapacity_eq (n : Nat) (s : State) :
    takeCapacity n s =
      if n - s.settings.reserve = s.cap.pool then { s with cap := { s.cap with carried := n } }
      else recompute { s with cap := { s.cap with carried := n, pool := n - s.settings.reserve } } := by
  unfold takeCapacity
  split
  next h => simp only [h]
  next => rfl

/-- A recomputation does not read the inbound queue. -/
theorem recompute_arrived (e : InEntry) (s : State) : recompute (arrived e s) = arrived e (recompute s) := by
  simp only [recompute_eq]
  rfl

@[simp] theorem recompute_ctp (s : State) : (recompute s).ctp = s.ctp := by rw [recompute_frame]
@[simp] theorem recompute_mail (s : State) : (recompute s).mail = s.mail := by rw [recompute_frame]

/-- What a new reserve makes of a state (R46). -/
def withReserve (n : Nat) (s : State) : State :=
  if s.cap.carried - n = s.cap.pool then { s with settings := { s.settings with reserve := n } }
  else
    recompute
      { s with
        settings := { s.settings with reserve := n }
        cap := { s.cap with pool := s.cap.carried - n } }

theorem withReserve_inbound (n : Nat) (s : State) : (withReserve n s).ctp.inbound = s.ctp.inbound := by
  unfold withReserve
  split <;> simp

theorem withReserve_arrived (n : Nat) (e : InEntry) (s : State) :
    withReserve n (arrived e s) = arrived e (withReserve n s) := by
  by_cases h : s.cap.carried - n = s.cap.pool
  · simp only [withReserve, arrived_cap, h, if_true]
    rfl
  · simp only [withReserve, arrived_cap, h, if_false]
    exact recompute_arrived e
      { s with settings := { s.settings with reserve := n }, cap := { s.cap with pool := s.cap.carried - n } }

/-- The reserve put: where it is the old one the pool, being what that one leaves, stays. -/
theorem putSetting_reserve {s : State} (h : s.cap.pool = s.cap.carried - s.settings.reserve) (n : Nat) :
    putSetting .reserve n s = withReserve n s := by
  unfold putSetting withReserve
  simp only [Settings.value, Settings.put, settingChanged, takeCapacity_eq]
  split
  next he =>
    subst he
    rw [if_pos h.symm]
  next => rfl

theorem judge_reserve (t : Settings) (v : Nat) :
    t.judge .reserve v = (max 1 (min 64 v), if 1 ≤ v ∧ v ≤ 64 then .ok else .clamped) := by
  simp only [Settings.judge, Setting.listed, Setting.range, clamp, reduceCtorEq, false_and, if_false, Prod.mk.injEq, true_and]
  exact if_congr (by omega) rfl rfl

/-- SETTINGS_SET of the reserve: the value clamped, and the state of the new reserve (R46, R190). -/
theorem settingsSet_reserve {s : State} (h : s.cap.pool = s.cap.carried - s.settings.reserve) (v : Nat) :
    settingsSet 9 v s =
      ⟨withReserve (max 1 (min 64 v)) s, if 1 ≤ v ∧ v ≤ 64 then .ok else .clamped, be 4 (max 1 (min 64 v))⟩ := by
  simp only [settingsSet, Setting.ofNumber, judge_reserve, putSetting_reserve h]

/-- A recomputation of an empty pool grants nothing. -/
theorem recompute_grant_of_pool_zero {s : State} (h : s.cap.pool = 0) (c : CellId) : ((recompute s).cell c).grant = 0 := by
  have hsum : (recompute s).grantSum = 0 := by
    rw [grantSum_recompute]
    split <;> omega
  exact List.sum_eq_zero_iff.mp hsum _ (List.mem_map_of_mem (mem_allCells c))

/-- Settles O25, under the pool relation that GrantLaw keeps. -/
theorem reserveSetting : Obligations.ReserveSetting := by
  intro s tag value c ht _ hpool
  refine ⟨rfl, fun hr => ?_, fun hr => ?_, Nat.sub_eq_zero_of_le, fun h _ => recompute_grant_of_pool_zero h c⟩
  · exact replies_of_arrived ht hr (bodyFits_of_length rfl (by decide) (by simp) (by simp)) rfl rfl
  · refine replies_of_arrived (x := withReserve (max 1 (min 64 value)) s) ht hr
      (bodyFits_of_length rfl (by decide) (by simp) (by simp)) (withReserve_inbound _ s) ?_
    rw [settingsSet_reserve (s := arrived _ s) hpool, withReserve_arrived]

/-! ### The taking of a restart (R195) -/

/-- Where no waiting request is malformed, or requests are not taken, none is answered so. -/
theorem answerUnowned_of_noneMalformed {b : Block} {s u : State} (hmail : u.mail.restart = s.mail.restart.erase b)
    (hin : u.ctp.inbound = s.ctp.inbound) (h : s.NoneMalformed b) : answerUnowned u = u := by
  unfold answerUnowned
  cases u.ctp.inbound.length with
  | zero => rfl
  | succ n =>
    simp only [answerMalformed]
    have hw : u.firstWaiting = s.firstWaiting := by simp only [State.firstWaiting, hin]
    rcases h with hne | hfits
    · simp [State.restarting, hmail, hne]
    · split
      · rfl
      · rw [hw]
        cases he : s.firstWaiting with
        | none => rfl
        | some e => exact if_pos (hfits e he)

/-- A block takes the restart delivered to it, where its effect leaves the queue and the other blocks' restarts. -/
theorem takeRestart_delivered {b : Block} {effect : State → State} {s : State} (hb : s.mail.restart.contains b = true)
    (hmail : (effect (s.restartTaken b)).mail.restart = s.mail.restart.erase b)
    (hin : (effect (s.restartTaken b)).ctp.inbound = s.ctp.inbound) (h : s.NoneMalformed b) :
    takeRestart b effect s = effect (s.restartTaken b) := by
  unfold takeRestart
  rw [if_pos hb]
  exact answerUnowned_of_noneMalformed hmail hin h

theorem takeRestart_not_delivered {b : Block} {effect : State → State} {s : State}
    (hb : s.mail.restart.contains b = false) : takeRestart b effect s = s := by
  simp only [takeRestart, hb, Bool.false_eq_true, if_false]

/-- Settles O40, row by row. -/
theorem capacityAndRegrant : Obligations.CapacityAndRegrant := by
  intro s
  refine ⟨?_, ?_, fun hb hn => ?_, fun hb => ?_⟩
  · cases h : s.mail.cap with
    | nil => simp only [exec, execCapacityHandover, h, done]
    | cons n rest => simp only [exec, execCapacityHandover, h, done, takeCapacity_eq]
  · cases h : s.cap.regrantTimer with
    | none => simp only [exec, execRegrantTimerExpiry, h, done, atExpiry]
    | some d => simp only [exec, execRegrantTimerExpiry, h, done, atExpiry]; rfl
  · refine congrArg done (takeRestart_delivered hb ?_ ?_ hn)
    · simp only [capRestartEffect, recompute_mail]; rfl
    · simp only [capRestartEffect, recompute_ctp]; rfl
  · exact congrArg done (takeRestart_not_delivered hb)

/-! ### The heartbeat (R66) -/

theorem setCell_setCell (c : CellId) (x y : Cell) (s : State) : setCell c x (setCell c y s) = setCell c x s := by
  simp [setCell]

/-- Two changes of one cell are one change. -/
theorem modCell_modCell (c : CellId) (f g : Cell → Cell) (s : State) :
    modCell c f (modCell c g s) = modCell c (fun x => f (g x)) s := by
  simp only [modCell, setCell_cell_self, setCell_setCell]

/-- A bad frame counted, in the statements' words. -/
theorem countBad_eq (c : CellId) (s : State) : countBad c s = s.withBadFrame c := rfl

/-- A HEARTBEAT from an ABSENT or LOST cell is answered REJOIN (R60). -/
theorem exec_heartbeat_gone {s : State} {c : CellId} {phase power : Nat} (demand : Nat) (h : phase ≤ 1 ∧ power ≤ 1)
    (hs : (s.cell c).state = .absent ∨ (s.cell c).state = .lost) :
    exec (.heartbeat c.val phase power demand) s = done (emitDeck c .rejoin s) := by
  rcases hs with hs | hs <;> simp only [exec, execHeartbeat, cellAt_val, if_pos h, hs]

/-- A HEARTBEAT from a DISABLED cell is discarded (R60). -/
theorem exec_heartbeat_disabled {s : State} {c : CellId} {phase power : Nat} (demand : Nat) (h : phase ≤ 1 ∧ power ≤ 1)
    (hs : (s.cell c).state = .disabled) : exec (.heartbeat c.val phase power demand) s = done s := by
  simp only [exec, execHeartbeat, cellAt_val, if_pos h, hs]

/-- A HEARTBEAT row with an unlisted phase or power is counted bad (R59). -/
theorem exec_heartbeat_unlisted {s : State} {phase power : Nat} (c : CellId) (demand : Nat) (h : 1 < phase ∨ 1 < power) :
    exec (.heartbeat c.val phase power demand) s = done (s.withBadFrame c) := by
  simp only [exec, execHeartbeat, cellAt_val, if_neg (show ¬(phase ≤ 1 ∧ power ≤ 1) by omega), countBad_eq]

/-- At a joined cell a HEARTBEAT is judged by its phase. -/
theorem exec_heartbeat_joined {s : State} {c : CellId} {phase power : Nat} (demand : Nat) (h : phase ≤ 1 ∧ power ≤ 1)
    (hj : (s.cell c).state.joined = true) :
    exec (.heartbeat c.val phase power demand) s =
      done (takeHeartbeat c (if phase = 0 then .a else .b) (if power = 0 then .mains else .backup) demand s) := by
  simp only [exec, execHeartbeat, cellAt_val, if_pos h]
  cases hs : (s.cell c).state <;> simp_all only [CellState.joined, Bool.false_eq_true]

/-- The cell record after a good HEARTBEAT (R66, R81). -/
def Heard (s : State) (phase : Phase) (power : Power) (demand : Nat) (x : Cell) : Cell :=
  { x with
    phase := phase.flip
    good := true
    demand := min 4095 demand
    power := power
    idleTimer :=
      if x.state = .serving ∧ x.power = .mains ∧ power = .backup then
        x.idleTimer.map (min (s.deadline (s.settings.idleTime / 4)))
      else x.idleTimer }

/-- A good HEARTBEAT: the record of the cell, and the demand-changed flag (R54, R66). -/
theorem takeHeartbeat_good {s : State} {c : CellId} {phase : Phase} (h : phase = (s.cell c).phase) (power : Power)
    (demand : Nat) :
    takeHeartbeat c phase power demand s =
      setCell c (Heard s phase power demand (s.cell c))
        { s with
          cap :=
            { s.cap with
              demandChanged :=
                s.cap.demandChanged || decide ((s.cell c).state = .serving ∧ min 4095 demand ≠ (s.cell c).demand) } } := by
  subst h
  unfold takeHeartbeat
  rw [if_pos rfl]
  simp only [changePower, modCell_modCell]
  split
  next hd => simp only [hd, ne_eq, not_false_eq_true, and_self, decide_true, Bool.or_true]; rfl
  next hd => simp only [hd, decide_false, Bool.or_false]; rfl

/-- Settles O42: by the row's checks, the cell's state and the phase. -/
theorem heartbeats : Obligations.Heartbeats := by
  intro s c phase power demand _
  refine ⟨fun hp hw hs => exec_heartbeat_gone demand ⟨hp, hw⟩ hs, fun hp hw hs => exec_heartbeat_disabled demand ⟨hp, hw⟩ hs,
    fun h => exec_heartbeat_unlisted c demand h, fun hw hj hp => ?_, fun hw hj hp => ?_⟩
  · have hle : phase ≤ 1 := by rw [hp]; split <;> omega
    have hne : (if phase = 0 then Phase.a else .b) ≠ (s.cell c).phase := by
      rw [hp]
      cases (s.cell c).phase <;> simp
    rw [Becomes, exec_heartbeat_joined demand ⟨hle, hw⟩ hj, takeHeartbeat, if_neg hne]
    rfl
  · have hle : phase ≤ 1 := by rw [hp]; split <;> omega
    have heq : (if phase = 0 then Phase.a else .b) = (s.cell c).phase := by
      rw [hp]
      cases (s.cell c).phase <;> simp
    have hflip : (s.cell c).phase.flip = if (s.cell c).phase = .a then .b else .a := by
      cases (s.cell c).phase <;> rfl
    have hpower : ((if power = 0 then Power.mains else .backup) = .backup) ↔ power = 1 := by
      split <;> simp <;> omega
    rw [Becomes, exec_heartbeat_joined demand ⟨hle, hw⟩ hj, takeHeartbeat_good heq]
    simp only [Heard, heq, hflip, hpower, done]
    rfl

end Sys2Proof.Proofs
end

section
/-! SUPPORT. What the shared operations on contexts, accumulators and epochs leave unchanged: closing and sweeping, retirement and
the striking of a cell, freeing and orphaning (R107, R111, R114, R144, R146, R148, R159). -/

namespace Sys2Proof.Proofs

open Sys2Proof.Machine

/-! ### Two frames -/

/-- A state without what charging, freeing and retiring write: the ring, the contexts, the attached counts, what the RGE, the RTE
and the TKQ hold, the conditions and the deck port's output. -/
def outside (s : State) : State :=
  { s with
    ctp := { s.ctp with conditions := 0#16, noticePending := false }
    epc := State.reset.epc
    duc := { s.duc with cells := s.duc.cells.map fun x => { x with attached := 0 } }
    sbt := { s.sbt with contexts := [] }
    rge := State.reset.rge
    rte := State.reset.rte
    tkq := State.reset.tkq
    ports := { s.ports with deck := [] } }

/-- Charging, freeing and retiring: nothing outside them changes, and deck frames are only added. -/
structure Charged (s t : State) : Prop where
  outside : outside t = outside s
  deck : s.ports.deck <+: t.ports.deck

/-- What an orphaning reads of a context. -/
def mark (x : Context) : CellId × Option Nat × CtxState := (x.cell, x.orphan, x.state)

/-- Closing, sweeping and retiring: no cell record changes, no context comes, goes or changes its mark, no epoch waits for a cell
it did not wait for, and the RGE and the RTE change in their generations and the attention list alone. -/
structure Settled (s t : State) : Prop extends Charged s t where
  duc : t.duc = s.duc
  marks : ∀ k, (t.context k).map mark = (s.context k).map mark
  pending : ∀ e ∈ t.epc.ring, ∃ f ∈ s.epc.ring, e.pendingSet ⊆ f.pendingSet
  rge : { t.rge with generations := [] } = { s.rge with generations := [] }
  rte : { t.rte with generations := [], attention := [] } = { s.rte with generations := [], attention := [] }

namespace Charged

variable {s t u : State}

theorem refl (s : State) : Charged s s := ⟨rfl, List.prefix_rfl⟩

theorem trans (h : Charged s t) (g : Charged t u) : Charged s u := ⟨g.outside.trans h.outside, h.deck.trans g.deck⟩

/-- What reads nothing that charging writes is kept. -/
theorem part {β : Type} (h : Charged s t) (f : State → β) (hf : ∀ x, f (Proofs.outside x) = f x) : f t = f s := by
  rw [← hf t, h.outside, hf]

theorem shipTime (h : Charged s t) : t.shipTime = s.shipTime := h.part State.shipTime fun _ => rfl
theorem settings (h : Charged s t) : t.settings = s.settings := h.part State.settings fun _ => rfl
theorem pzu (h : Charged s t) : t.pzu = s.pzu := h.part State.pzu fun _ => rfl
theorem lkm (h : Charged s t) : t.lkm = s.lkm := h.part State.lkm fun _ => rfl
theorem cap (h : Charged s t) : t.cap = s.cap := h.part State.cap fun _ => rfl
theorem cfs (h : Charged s t) : t.cfs = s.cfs := h.part State.cfs fun _ => rfl
theorem mail (h : Charged s t) : t.mail = s.mail := h.part State.mail fun _ => rfl
theorem pending (h : Charged s t) : t.pending = s.pending := h.part State.pending fun _ => rfl
theorem retuneList (h : Charged s t) : t.duc.retuneList = s.duc.retuneList :=
  h.part (fun x => x.duc.retuneList) fun _ => rfl
theorem terminal (h : Charged s t) : t.ports.terminal = s.ports.terminal :=
  h.part (fun x => x.ports.terminal) fun _ => rfl

theorem outside_cell (s : State) (c : CellId) : (Proofs.outside s).cell c = { s.cell c with attached := 0 } := by
  show (s.duc.cells.map fun x : Cell => { x with attached := 0 })[c.val] = _
  rw [Vector.getElem_map]
  rfl

/-- A cell record changes in its attached count alone. -/
theorem cell (h : Charged s t) (c : CellId) : t.cell c = { s.cell c with attached := (t.cell c).attached } := by
  have hc := congrArg (fun x : State => x.cell c) h.outside
  simp only [outside_cell] at hc
  have := congrArg (fun x : Cell => { x with attached := (t.cell c).attached }) hc
  exact this

end Charged

namespace Settled

variable {s t u : State}

theorem refl (s : State) : Settled s s :=
  ⟨.refl s, rfl, fun _ => rfl, fun e he => ⟨e, he, List.Subset.refl _⟩, rfl, rfl⟩

theorem trans (h : Settled s t) (g : Settled t u) : Settled s u where
  toCharged := h.toCharged.trans g.toCharged
  duc := g.duc.trans h.duc
  marks k := (g.marks k).trans (h.marks k)
  pending e he := by
    obtain ⟨f, hf, hef⟩ := g.pending e he
    obtain ⟨k, hk, hfk⟩ := h.pending f hf
    exact ⟨k, hk, List.Subset.trans hef hfk⟩
  rge := g.rge.trans h.rge
  rte := g.rte.trans h.rte

/-- An operation that keeps the contexts and the ring. -/
theorem of_parts (charged : Charged s t) (duc : t.duc = s.duc) (sbt : t.sbt = s.sbt) (epc : t.epc = s.epc)
    (rge : { t.rge with generations := [] } = { s.rge with generations := [] })
    (rte : { t.rte with generations := [], attention := [] } = { s.rte with generations := [], attention := [] }) :
    Settled s t :=
  ⟨charged, duc, fun k => by simp only [State.context, sbt],
    fun e he => ⟨e, by rwa [epc] at he, List.Subset.refl _⟩, rge, rte⟩

end Settled

/-! ### The operations charging shares -/

theorem setCond_settled (c : Condition) (s : State) : Settled s (setCond c s) :=
  .of_parts ⟨rfl, List.prefix_rfl⟩ rfl rfl rfl rfl rfl

theorem emitDeck_settled (c : CellId) (f : DeckFrame) (s : State) : Settled s (emitDeck c f s) :=
  .of_parts ⟨rfl, List.prefix_append _ _⟩ rfl rfl rfl rfl rfl

theorem sendDeck_settled (c : CellId) (f : DeckFrame) (s : State) : Settled s (sendDeck c f s) := by
  rcases sendDeck_cases c f s with ⟨-, h⟩ | ⟨-, h⟩ <;> rw [h]
  · exact emitDeck_settled c f s
  · exact .refl s

/-- A context put in the place of one with the same mark. -/
theorem setContext_settled {k : Nat} {x y : Context} {s : State} (h : s.context k = some x) (hm : mark y = mark x) :
    Settled s (setContext k y s) where
  outside := rfl
  deck := List.prefix_rfl
  duc := rfl
  marks j := by
    by_cases hj : j = k
    · subst hj
      rw [setContext_context_self, h, Option.map_some, Option.map_some, hm]
    · rw [setContext_context_ne hj]
  pending e he := ⟨e, he, List.Subset.refl _⟩
  rge := rfl
  rte := rfl

theorem modContext_settled {k : Nat} {f : Context → Context} {s : State} (hm : ∀ x, mark (f x) = mark x) :
    Settled s (modContext k f s) := by
  rcases modContext_cases k f s with ⟨-, h⟩ | ⟨x, hx, h⟩ <;> rw [h]
  · exact .refl s
  · exact setContext_settled hx (hm x)

theorem restrict_settled (k : Nat) (f : Restrictions → Restrictions) (s : State) : Settled s (restrict k f s) := by
  rcases restrict_cases k f s with ⟨-, h⟩ | ⟨x, hx, h⟩
  · rw [h]
    exact .refl s
  · have hset : Settled s (setContext k { x with restrictions := f x.restrictions } s) := setContext_settled hx rfl
    rcases h with h | ⟨-, -, -, h⟩ | ⟨-, -, -, h⟩ <;> rw [h]
    · exact hset
    · exact hset.trans (sendDeck_settled ..)
    · exact hset.trans (sendDeck_settled ..)

/-! ### Debiting and closing (R159 to R163, R169) -/

/-- A change of the attention list alone. -/
theorem setAttention_settled (l : List (Nat × AttentionReason)) (s : State) :
    Settled s { s with rte := { s.rte with attention := l } } :=
  .of_parts ⟨rfl, List.prefix_rfl⟩ rfl rfl rfl rfl rfl

theorem joinAttention_settled (k : Nat) (r : AttentionReason) (s : State) : Settled s (joinAttention k r s) := by
  unfold joinAttention
  split
  · exact (setAttention_settled _ s).trans (setCond_settled ..)
  · split
    · exact (setAttention_settled _ s).trans (setCond_settled ..)
    · exact .refl s

theorem markNotified_settled (k : Nat) (s : State) : Settled s (markNotified k s) := modContext_settled fun _ => rfl

theorem notifyQuota_settled (k before : Nat) (q : Quota) (s : State) : Settled s (notifyQuota k before q s) := by
  unfold notifyQuota
  split
  · exact (joinAttention_settled ..).trans (markNotified_settled ..)
  · split
    · exact (joinAttention_settled ..).trans (markNotified_settled ..)
    · exact .refl s

theorem debit_settled (k d : Nat) (s : State) : Settled s (debit k d s) := by
  unfold debit
  split
  next => exact .refl s
  next x hx =>
    split
    next => exact .refl s
    next =>
      have hset : Settled s (setContext k { x with quota := x.quota.debited d } s) := setContext_settled hx rfl
      refine .trans ?_ (notifyQuota_settled ..)
      split
      · exact hset
      · exact hset.trans (restrict_settled ..)

theorem appendTicket_settled (t : Ticket) (s : State) : Settled s (appendTicket t s) := by
  have happend (q : Tkq) : Settled s { s with tkq := q } := .of_parts ⟨rfl, List.prefix_rfl⟩ rfl rfl rfl rfl rfl
  unfold appendTicket
  dsimp only
  split
  · exact (happend _).trans (setCond_settled ..)
  · exact happend _

theorem handOver_settled (k : Nat) (a : Accumulator) (reason : CloseReason) (s : State) :
    Settled s (handOver k a reason s) := by
  have hdebit : Settled s (if a.unsettled then debit k a.settlement s else s) := by
    split
    · exact debit_settled ..
    · exact .refl s
  unfold handOver
  extract_lets t
  change Settled s t at hdebit
  split
  · exact hdebit
  · exact hdebit.trans (appendTicket_settled ..)

theorem closeAccumulator_settled (k : Nat) (reason : CloseReason) (s : State) :
    Settled s (closeAccumulator k reason s) := by
  unfold closeAccumulator
  split
  · exact .refl s
  · exact (handOver_settled ..).trans (modContext_settled fun _ => rfl)

/-! ### Retirement and striking (R144, R146, R148) -/

theorem sweepContext_settled (k : Nat) (s : State) : Settled s (sweepContext k s) := by
  unfold sweepContext
  split
  next => exact .refl s
  next x hx =>
    split
    next => exact .refl s
    next =>
      split
      · exact .refl s
      · dsimp only
        split
        · exact setContext_settled hx rfl
        · exact closeAccumulator_settled ..

/-- A loop whose every turn settles. -/
theorem forEach_settled {α : Type} {items : List α} {f : α → State → State} (h : ∀ a t, Settled t (f a t)) (s : State) :
    Settled s (forEach items f s) :=
  forEach_keeps (property := Settled s) (fun a _ t ht => ht.trans (h a t)) (.refl s)

theorem boundarySweep_settled (s : State) : Settled s (boundarySweep s) := forEach_settled sweepContext_settled s

/-- A ring in whose epochs no cell is pending that was not. -/
theorem setRing_settled {ring : List Epoch} {s : State}
    (h : ∀ e ∈ ring, ∃ f ∈ s.epc.ring, e.pendingSet ⊆ f.pendingSet) : Settled s (setRing ring s) :=
  ⟨⟨rfl, List.prefix_rfl⟩, rfl, fun _ => rfl, h, rfl, rfl⟩

theorem releaseGenerations_settled (s : State) : Settled s (releaseGenerations s) :=
  .of_parts ⟨rfl, List.prefix_rfl⟩ rfl rfl rfl rfl rfl

theorem countRetired_settled (r : RetireReason) (s : State) : Settled s (countRetired r s) := by
  cases r <;> exact ⟨⟨rfl, List.prefix_rfl⟩, rfl, fun _ => rfl, fun e he => ⟨e, he, List.Subset.refl _⟩, rfl, rfl⟩

theorem retireOldest_settled (r : RetireReason) (s : State) : Settled s (retireOldest r s) := by
  unfold retireOldest
  split
  next e f rest hring =>
    have hkept : Settled s (setRing ({ f with cut := .none } :: rest) s) := setRing_settled fun g hg => by
      rw [hring]
      rcases List.mem_cons.mp hg with rfl | hg
      · exact ⟨f, by simp, List.Subset.refl _⟩
      · exact ⟨g, by simp [hg], List.Subset.refl _⟩
    exact hkept.trans ((boundarySweep_settled _).trans
      ((releaseGenerations_settled _).trans (countRetired_settled ..)))
  next => exact .refl s

theorem retireWhile_settled (n : Nat) (s : State) : Settled s (retireWhile n s) := by
  induction n generalizing s with
  | zero => exact .refl s
  | succ n ih =>
    unfold retireWhile
    split
    · split
      · exact (retireOldest_settled ..).trans (ih _)
      · exact (retireOldest_settled ..).trans (ih _)
      · exact .refl s
    · exact .refl s

theorem retirementCheck_settled (s : State) : Settled s (retirementCheck s) := retireWhile_settled ..

/-- A struck epoch waits for the cells it waited for, but for the one struck. -/
theorem mem_strike {c d : CellId} {e : Epoch} (h : d ∈ (e.strike c).pendingSet) : d ∈ e.pendingSet ∧ d ≠ c := by
  unfold Epoch.strike at h
  split at h
  next =>
    dsimp only at h
    split at h <;> simpa using h
  next hc =>
    refine ⟨h, ?_⟩
    rintro rfl
    exact hc (by simpa using h)

/-- The ring with a cell struck from every epoch. -/
theorem setRing_strike_settled (c : CellId) (s : State) : Settled s (setRing (s.epc.ring.map (Epoch.strike c)) s) := by
  refine setRing_settled fun e he => ?_
  obtain ⟨f, hf, rfl⟩ := List.mem_map.mp he
  exact ⟨f, hf, fun d hd => (mem_strike hd).1⟩

theorem strikeCell_settled (c : CellId) (s : State) : Settled s (strikeCell c s) :=
  (setRing_strike_settled c s).trans (retirementCheck_settled _)

/-- A struck cell is in no pending set (R144). -/
theorem strikeCell_pending (c : CellId) (s : State) : ∀ e ∈ (strikeCell c s).epc.ring, c ∉ e.pendingSet := by
  intro e he hc
  obtain ⟨f, hf, hef⟩ := (retirementCheck_settled _).pending e he
  obtain ⟨g, -, rfl⟩ := List.mem_map.mp hf
  exact (mem_strike (hef hc)).2 rfl

/-! ### Freeing and orphaning (R97, R111, R114) -/

/-- A change of a cell's attached count alone. -/
theorem modCell_attached_charged {c : CellId} {f : Cell → Cell} (hf : ∀ x, { f x with attached := 0 } = { x with attached := 0 })
    (s : State) : Charged s (modCell c f s) := by
  refine ⟨?_, List.prefix_rfl⟩
  have hcells : (s.duc.cells.set c.val (f (s.cell c)) c.isLt).map (fun x => ({ x with attached := 0 } : Cell))
      = s.duc.cells.map fun x => { x with attached := 0 } := by
    ext i hi : 1
    by_cases h : c.val = i
    · subst h
      rw [Vector.getElem_map, Vector.getElem_set_self, hf, Vector.getElem_map]
      rfl
    · simp [h]
  simp only [outside, modCell, setCell_duc, hcells]
  rfl

theorem lowerAttached_charged (c : CellId) (s : State) : Charged s (lowerAttached c s) :=
  modCell_attached_charged (f := fun x => { x with attached := x.attached - 1 }) (fun _ => rfl) s

theorem freeContext_charged (k : Nat) (s : State) : Charged s (freeContext k s) := by
  unfold freeContext
  split
  next => exact .refl s
  next x _ => exact (lowerAttached_charged x.cell s).trans ⟨rfl, List.prefix_rfl⟩

/-- A context put, whatever stood there. -/
theorem setContext_charged (k : Nat) (x : Context) (s : State) : Charged s (setContext k x s) := ⟨rfl, List.prefix_rfl⟩

theorem modContext_charged (k : Nat) (f : Context → Context) (s : State) : Charged s (modContext k f s) := by
  rcases modContext_cases k f s with ⟨-, h⟩ | ⟨x, -, h⟩ <;> rw [h]
  · exact .refl s
  · exact setContext_charged ..

theorem completeCounts_charged (k : Nat) (s : State) : Charged s (completeCounts k s) := by
  unfold completeCounts
  split
  · exact modContext_charged ..
  · exact (closeAccumulator_settled ..).toCharged.trans (freeContext_charged ..)

theorem orphanContext_charged (k : Nat) (s : State) : Charged s (orphanContext k s) := by
  unfold orphanContext
  split
  next => exact .refl s
  next =>
    split
    next =>
      split
      · exact completeCounts_charged ..
      · exact .refl s
    next =>
      split
      · exact .refl s
      · exact setContext_charged ..

/-- A loop whose every turn charges. -/
theorem forEach_charged {α : Type} {items : List α} {f : α → State → State} (h : ∀ a t, Charged t (f a t)) (s : State) :
    Charged s (forEach items f s) :=
  forEach_keeps (property := Charged s) (fun a _ t ht => ht.trans (h a t)) (.refl s)

theorem orphanCell_charged (c : CellId) (s : State) : Charged s (orphanCell c s) := by
  refine forEach_charged (fun k t => ?_) s
  split
  · exact orphanContext_charged ..
  · exact .refl t

theorem cellCountsComplete_charged (c : CellId) (s : State) : Charged s (cellCountsComplete c s) := by
  refine forEach_charged (fun k t => ?_) s
  split
  · exact .refl t
  · split
    · exact completeCounts_charged ..
    · exact .refl t

end Sys2Proof.Proofs
end

section
/-! SUPPORT. What leaves the grants alone: an operation that changes neither the pool nor what it is worked out from, nor the
retune list, nor a cell's state, grant or deep timer; and the charging, registration and link operations, each of which is one. -/

namespace Sys2Proof.Proofs

open Sys2Proof.Machine

/-- Nothing that GrantLaw or RetuneLaw reads changes. -/
structure Unmoved (s t : State) : Prop where
  carried : t.cap.carried = s.cap.carried
  pool : t.cap.pool = s.cap.pool
  reserve : t.settings.reserve = s.settings.reserve
  retuneList : t.duc.retuneList = s.duc.retuneList
  state (c : CellId) : (t.cell c).state = (s.cell c).state
  grant (c : CellId) : (t.cell c).grant = (s.cell c).grant
  deepTimer (c : CellId) : (t.cell c).deepTimer = (s.cell c).deepTimer

namespace Unmoved

variable {s t u : State}

theorem refl (s : State) : Unmoved s s := ⟨rfl, rfl, rfl, rfl, fun _ => rfl, fun _ => rfl, fun _ => rfl⟩

theorem trans (h : Unmoved s t) (g : Unmoved t u) : Unmoved s u where
  carried := g.carried.trans h.carried
  pool := g.pool.trans h.pool
  reserve := g.reserve.trans h.reserve
  retuneList := g.retuneList.trans h.retuneList
  state c := (g.state c).trans (h.state c)
  grant c := (g.grant c).trans (h.grant c)
  deepTimer c := (g.deepTimer c).trans (h.deepTimer c)

/-- An operation that keeps the CAP's record, the settings and the DUC's. -/
theorem of_parts (cap : t.cap = s.cap) (settings : t.settings = s.settings) (duc : t.duc = s.duc) : Unmoved s t := by
  have hcell (c : CellId) : t.cell c = s.cell c := by simp only [State.cell, duc]
  exact ⟨by rw [cap], by rw [cap], by rw [settings], by rw [duc], fun c => by rw [hcell], fun c => by rw [hcell],
    fun c => by rw [hcell]⟩

/-- A choice between two states, each unmoved. -/
theorem ite {p : Prop} [Decidable p] (h : Unmoved s t) (g : Unmoved s u) : Unmoved s (if p then t else u) := by
  split
  · exact h
  · exact g

end Unmoved

theorem Charged.unmoved {s t : State} (h : Charged s t) : Unmoved s t where
  carried := by rw [h.cap]
  pool := by rw [h.cap]
  reserve := by rw [h.settings]
  retuneList := h.retuneList
  state c := by rw [h.cell c]
  grant c := by rw [h.cell c]
  deepTimer c := by rw [h.cell c]

theorem Settled.unmoved {s t : State} (h : Settled s t) : Unmoved s t := h.toCharged.unmoved

/-- A loop whose every turn leaves the grants alone. -/
theorem forEach_unmoved {α : Type} {items : List α} {f : α → State → State} (h : ∀ a t, Unmoved t (f a t)) (s : State) :
    Unmoved s (forEach items f s) :=
  forEach_keeps (property := Unmoved s) (fun a _ t ht => ht.trans (h a t)) (.refl s)

/-- A change of a cell's record that keeps its state, grant and deep timer. -/
theorem modCell_unmoved {c : CellId} {f : Cell → Cell} {s : State}
    (hf : ∀ x, (f x).state = x.state ∧ (f x).grant = x.grant ∧ (f x).deepTimer = x.deepTimer) :
    Unmoved s (modCell c f s) := by
  obtain ⟨hstate, hgrant, hdeep⟩ := hf (s.cell c)
  have hcell {β : Type} (g : Cell → β) (hg : g (f (s.cell c)) = g (s.cell c)) (d : CellId) :
      g ((modCell c f s).cell d) = g (s.cell d) := by
    rw [modCell, setCell_cell]
    split
    next h => rw [h, hg]
    next => rfl
  exact ⟨rfl, rfl, rfl, rfl, hcell Cell.state hstate, hcell Cell.grant hgrant, hcell Cell.deepTimer hdeep⟩

/-! ### Timers, ticks and frames -/

theorem tick_unmoved (s : State) : Unmoved s (tick s) := .of_parts rfl rfl rfl

theorem refreshLamp_unmoved (s : State) : Unmoved s (refreshLamp s) := by
  refine ⟨?_, ?_, ?_, ?_, fun c => ?_, fun c => ?_, fun c => ?_⟩ <;> simp

theorem reachDeadline_unmoved (d : Nat) (s : State) : Unmoved s (reachDeadline d s) := .of_parts rfl rfl rfl

theorem atExpiry_unmoved {t : Timer} {effect : State → State} (h : ∀ u, Unmoved u (effect u)) (s : State) :
    Unmoved s (atExpiry t effect s) := by
  rcases atExpiry_cases t effect s with ⟨-, he⟩ | ⟨d, -, he⟩ <;> rw [he]
  · exact .refl s
  · exact (reachDeadline_unmoved d s).trans (h _)

theorem emitDeck_unmoved (c : CellId) (f : DeckFrame) (s : State) : Unmoved s (emitDeck c f s) :=
  (emitDeck_settled c f s).unmoved

theorem sendDeck_unmoved (c : CellId) (f : DeckFrame) (s : State) : Unmoved s (sendDeck c f s) :=
  (sendDeck_settled c f s).unmoved

theorem setCond_unmoved (c : Condition) (s : State) : Unmoved s (setCond c s) := .of_parts rfl rfl rfl

theorem setContext_unmoved (k : Nat) (x : Context) (s : State) : Unmoved s (setContext k x s) := .of_parts rfl rfl rfl

theorem modContext_unmoved (k : Nat) (f : Context → Context) (s : State) : Unmoved s (modContext k f s) :=
  (modContext_charged k f s).unmoved

theorem sendTerminal_unmoved (l : LinkId) (f : TermFrame) (s : State) : Unmoved s (sendTerminal l f s) :=
  .of_parts rfl rfl rfl

theorem restrict_unmoved (k : Nat) (f : Restrictions → Restrictions) (s : State) : Unmoved s (restrict k f s) :=
  (restrict_settled k f s).unmoved

theorem freeContext_unmoved (k : Nat) (s : State) : Unmoved s (freeContext k s) := (freeContext_charged k s).unmoved

theorem closeAccumulator_unmoved (k : Nat) (reason : CloseReason) (s : State) : Unmoved s (closeAccumulator k reason s) :=
  (closeAccumulator_settled k reason s).unmoved

theorem retirementCheck_unmoved (s : State) : Unmoved s (retirementCheck s) := (retirementCheck_settled s).unmoved

theorem raiseAttached_unmoved (c : CellId) (s : State) : Unmoved s (raiseAttached c s) :=
  modCell_unmoved fun _ => ⟨rfl, rfl, rfl⟩

theorem countBad_unmoved (c : CellId) (s : State) : Unmoved s (countBad c s) := modCell_unmoved fun _ => ⟨rfl, rfl, rfl⟩

/-! ### Rating (R155 to R160, R171) -/

theorem rateInto_unmoved (k up down epoch : Nat) (late : Bool) (s : State) : Unmoved s (rateInto k up down epoch late s) := by
  unfold rateInto
  split
  · exact .refl s
  · split
    · exact .refl s
    · exact (setContext_unmoved ..).trans (debit_settled ..).unmoved

/-- A change of what the TKQ holds. -/
theorem setTkq_unmoved (q : Tkq) (s : State) : Unmoved s { s with tkq := q } := .of_parts rfl rfl rfl

theorem holdUsage_unmoved (k up down epoch : Nat) (s : State) : Unmoved s (holdUsage k up down epoch s) := by
  have hheld := modContext_unmoved k (fun x => { x with held := some ⟨up, down, epoch⟩ }) s
  refine .trans ?_ (setCond_unmoved ..)
  exact (hheld.trans (setTkq_unmoved _ _)).trans (restrict_unmoved ..)

theorem lateTicket_unmoved (k up down : Nat) (key : Key) (epoch : Nat) (s : State) :
    Unmoved s (lateTicket k up down key epoch s) :=
  ((debit_settled ..).trans (handOver_settled ..)).unmoved

theorem openOrHold_unmoved (k up down tag : Nat) (key : Key) (epoch : Nat) (late room : Bool) (s : State) :
    Unmoved s (openOrHold k up down tag key epoch late room s) :=
  .ite ((modContext_unmoved ..).trans (rateInto_unmoved ..)) (holdUsage_unmoved ..)

theorem countLate_unmoved (late : Bool) (s : State) : Unmoved s (countLate late s) :=
  .ite (.of_parts rfl rfl rfl) (.refl s)

theorem rateEntry_unmoved (k up down tag : Nat) (room : Bool) (s : State) : Unmoved s (rateEntry k up down tag room s) := by
  have hlate := countLate_unmoved (s.epochFor tag).2 s
  unfold rateEntry
  split
  · exact .refl s
  · dsimp only
    split
    · exact hlate.trans (openOrHold_unmoved ..)
    · exact .ite (hlate.trans (rateInto_unmoved ..))
        (.ite (.ite (hlate.trans (lateTicket_unmoved ..)) (hlate.trans (holdUsage_unmoved ..)))
          ((hlate.trans (closeAccumulator_unmoved ..)).trans (openOrHold_unmoved ..)))

theorem discardEntry_unmoved (s : State) : Unmoved s (discardEntry s) := .of_parts rfl rfl rfl

theorem takeEntry_unmoved (tag : Nat) (e : UsageEntry) (s : State) : Unmoved s (takeEntry tag e s) := by
  unfold takeEntry
  split
  · exact discardEntry_unmoved s
  · refine .ite (discardEntry_unmoved s) ?_
    split
    · exact setContext_unmoved ..
    · exact rateEntry_unmoved ..

theorem quotaGrant_unmoved (k mode amount : Nat) (s : State) : Unmoved s (quotaGrant k mode amount s).state := by
  unfold quotaGrant
  split
  · exact .refl s
  · split
    · exact .refl s
    · split
      · exact .refl s
      · split
        · exact .refl s
        · dsimp only [grantQuota]
          exact (setContext_unmoved ..).trans (restrict_unmoved ..)

/-! ### Cancelling, releasing and completing (R107, R114, R132) -/

theorem setRegistration_unmoved (k : Nat) (r : Registration) (s : State) : Unmoved s (setRegistration k r s) :=
  modContext_unmoved ..

/-- A change of what the RGE holds. -/
theorem setRge_unmoved (r : Rge) (s : State) : Unmoved s { s with rge := r } := .of_parts rfl rfl rfl

theorem cancelRegistration_unmoved (k : Nat) (s : State) : Unmoved s (cancelRegistration k s) := by
  unfold cancelRegistration
  split
  · exact (setRge_unmoved _ s).trans (setRegistration_unmoved ..)
  · exact (setRge_unmoved _ s).trans (setRegistration_unmoved ..)
  · exact .refl s

theorem releaseContext_unmoved (k : Nat) (reason : LeaveReason) (s : State) : Unmoved s (releaseContext k reason s) := by
  have hclosed := (cancelRegistration_unmoved k s).trans (closeAccumulator_unmoved k reason.close _)
  exact .ite (hclosed.trans (modContext_unmoved ..)) (hclosed.trans (freeContext_unmoved ..))

theorem detachAtSbt_unmoved (c : CellId) (sid : Sid) (k : Nat) (s : State) : Unmoved s (detachAtSbt c sid k s) := by
  unfold detachAtSbt
  split
  · exact .refl s
  · exact .ite (releaseContext_unmoved ..) (.refl s)

theorem tellReleased_unmoved (k : Nat) (x : Context) (s : State) : Unmoved s (tellReleased k x s) :=
  .ite (sendDeck_unmoved ..) (sendDeck_unmoved ..)

theorem subRelease_unmoved (k : Nat) (s : State) : Unmoved s (subRelease k s).state := by
  unfold subRelease
  split
  · exact .refl s
  · split
    · exact .refl s
    · split
      · exact .refl s
      · exact (tellReleased_unmoved ..).trans (releaseContext_unmoved ..)

theorem graceOver_unmoved (k : Nat) (s : State) : Unmoved s (graceOver k s) := by
  unfold graceOver
  split
  · exact .refl s
  · exact ((setContext_unmoved ..).trans (tellReleased_unmoved ..)).trans (releaseContext_unmoved ..)

theorem serviceOffContext_unmoved (k : Nat) (s : State) : Unmoved s (serviceOffContext k s) := by
  unfold serviceOffContext
  split
  · exact .refl s
  · split
    · exact .refl s
    · exact ((sendDeck_unmoved ..).trans (cancelRegistration_unmoved ..)).trans (freeContext_unmoved ..)
    · have hleft := (cancelRegistration_unmoved k s).trans
        (modContext_unmoved k (fun y => { y with state := .leaving, orphan := none, leaving := some ⟨.serviceOff, false⟩ }) _)
      exact .ite (hleft.trans (completeCounts_charged ..).unmoved) hleft

/-! ### The hold list, the interval and the restarts of contexts (R118, R174, R175, R180) -/

theorem leaveHoldList_unmoved (k : Nat) (s : State) : Unmoved s (leaveHoldList k s) := setTkq_unmoved _ s

theorem rateHeld_unmoved (k : Nat) (room : Bool) (s : State) : Unmoved s (rateHeld k room s) := by
  unfold rateHeld
  split
  · exact .refl s
  · exact (rateEntry_unmoved ..).trans (modContext_unmoved ..)

theorem finishLeaving_unmoved (k : Nat) (s : State) : Unmoved s (finishLeaving k s) := by
  unfold finishLeaving
  split
  · exact .refl s
  · exact .ite ((closeAccumulator_unmoved ..).trans (freeContext_unmoved ..)) (.refl s)

theorem serveContext_unmoved (k : Nat) (s : State) : Unmoved s (serveContext k s) :=
  (((leaveHoldList_unmoved k s).trans (rateHeld_unmoved ..)).trans (restrict_unmoved ..)).trans (finishLeaving_unmoved ..)

theorem serveWhile_unmoved (n : Nat) (s : State) : Unmoved s (serveWhile n s) := by
  induction n generalizing s with
  | zero => exact .refl s
  | succ n ih =>
    unfold serveWhile
    split
    · exact .refl s
    · exact .ite ((serveContext_unmoved ..).trans (ih _)) (.refl s)

theorem ticketRelease_unmoved (seq : Nat) (s : State) : Unmoved s (ticketRelease seq s).state := by
  unfold ticketRelease
  split
  · exact .refl s
  · exact (setTkq_unmoved _ s).trans (serveWhile_unmoved ..)

theorem closeOverdue_unmoved (s : State) : Unmoved s (closeOverdue s) := by
  refine forEach_unmoved (fun k t => ?_) s
  split
  · exact .refl t
  · exact .ite (closeAccumulator_unmoved ..) (.refl t)

theorem writeOff_unmoved (h : Held) (s : State) : Unmoved s (writeOff h s) := .of_parts rfl rfl rfl

theorem restartHeld_unmoved (k : Nat) (s : State) : Unmoved s (restartHeld k s) := by
  unfold restartHeld
  split
  · exact .refl s
  · split
    · exact .refl s
    · refine .trans ?_ ((leaveHoldList_unmoved ..).trans (modContext_unmoved ..))
      exact .ite (rateHeld_unmoved ..) (.ite (rateHeld_unmoved ..) (writeOff_unmoved ..))

theorem restartContext_unmoved (k : Nat) (s : State) : Unmoved s (restartContext k s) :=
  (((cancelRegistration_unmoved k s).trans (restartHeld_unmoved ..)).trans (closeAccumulator_unmoved ..)).trans
    (freeContext_unmoved ..)

theorem sbtRestartEffect_unmoved (s : State) : Unmoved s (sbtRestartEffect s) := forEach_unmoved restartContext_unmoved s

/-! ### Epochs (R141, R143, R145, R147, R150) -/

theorem setRing_unmoved (ring : List Epoch) (s : State) : Unmoved s (setRing ring s) := .of_parts rfl rfl rfl

theorem forceOldest_unmoved (s : State) : Unmoved s (forceOldest s) := by
  unfold forceOldest
  split
  · exact (((setRing_unmoved ..).trans (setCond_unmoved ..)).trans (retireOldest_settled ..).unmoved).trans
      (retirementCheck_unmoved _)
  · exact .refl s

theorem openEpoch_unmoved (reason : OpenReason) (s : State) : Unmoved s (openEpoch reason s) := by
  unfold openEpoch
  extract_lets s1 e s2 s3
  have hroom : Unmoved s s1 := .ite (forceOldest_unmoved s) (.refl s)
  have hcut : Unmoved s2 s3 := forEach_unmoved (fun c t => sendDeck_unmoved c (.cut e.number) t) s2
  have hopened : Unmoved s s3 := (hroom.trans (setRing_unmoved _ s1)).trans hcut
  exact .ite (hopened.trans (retirementCheck_unmoved _)) hopened

theorem takeUsageEnd_unmoved (m : Nat) (c : CellId) (s : State) : Unmoved s (takeUsageEnd m c s) :=
  (setRing_unmoved ..).trans (retirementCheck_unmoved _)

theorem epcRestartEffect_unmoved (s : State) : Unmoved s (epcRestartEffect s) :=
  (setRing_unmoved ..).trans (releaseGenerations_settled _).unmoved

/-! ### Registration (R105, R106, R122 to R134) -/

theorem sendAdmit_unmoved (k : Nat) (x : Context) (s : State) : Unmoved s (sendAdmit k x s) :=
  .ite (sendDeck_unmoved ..) ((sendDeck_unmoved ..).trans (sendDeck_unmoved ..))

theorem admitContext_unmoved (k : Nat) (s : State) : Unmoved s (admitContext k s) := by
  unfold admitContext
  split
  next => exact .refl s
  next x _ =>
    have hadmit := (setContext_unmoved k { x with state := .active, jurisdiction := some s.zone.jurisdiction } s).trans
      (sendAdmit_unmoved k x _)
    exact .ite (hadmit.trans (joinAttention_settled ..).unmoved) hadmit

theorem refuseContext_unmoved (k : Nat) (cause : RefuseCause) (s : State) : Unmoved s (refuseContext k cause s) := by
  unfold refuseContext
  split
  · exact .refl s
  · exact (sendDeck_unmoved ..).trans (freeContext_unmoved ..)

theorem addZone_unmoved (k : Nat) (s : State) : Unmoved s (addZone k s) := restrict_unmoved ..

theorem removeZone_unmoved (k : Nat) (s : State) : Unmoved s (removeZone k s) := restrict_unmoved ..

theorem setPartner_unmoved (k : Nat) (partner jurisdiction : Option Nat) (s : State) :
    Unmoved s (setPartner k partner jurisdiction s) := modContext_unmoved ..

theorem settlePartner_unmoved (k partner jurisdiction : Nat) (s : State) :
    Unmoved s (settlePartner k partner jurisdiction s) :=
  ((setRegistration_unmoved ..).trans (setPartner_unmoved ..)).trans (removeZone_unmoved ..)

theorem losePartner_unmoved (k : Nat) (s : State) : Unmoved s (losePartner k s) :=
  ((setRegistration_unmoved ..).trans (setPartner_unmoved ..)).trans (addZone_unmoved ..)

theorem admitPartner_unmoved (k partner : Nat) (s : State) : Unmoved s (admitPartner k partner s) :=
  ((setRegistration_unmoved ..).trans (modContext_unmoved ..)).trans (admitContext_unmoved ..)

theorem turnAway_unmoved (k : Nat) (cause : RefuseCause) (s : State) : Unmoved s (turnAway k cause s) :=
  (setRegistration_unmoved ..).trans (refuseContext_unmoved ..)

theorem sendRegReq_unmoved (k : Nat) (x : Context) (attempt : Nat) (purpose : Purpose) (e : PartnerEntry) (l : LinkId)
    (s : State) : Unmoved s (sendRegReq k x attempt purpose e l s) :=
  ((setRge_unmoved _ s).trans (sendTerminal_unmoved ..)).trans (setContext_unmoved ..)

theorem buildRequest_unmoved (k : Nat) (l : LinkId) (s : State) : Unmoved s (buildRequest k l s) := by
  unfold buildRequest
  split
  · exact .refl s
  · split
    · dsimp only
      split
      · exact sendRegReq_unmoved ..
      · exact admitPartner_unmoved ..
      · exact settlePartner_unmoved ..
      · exact turnAway_unmoved ..
      · exact ((setRegistration_unmoved ..).trans (modContext_unmoved ..)).trans (restrict_unmoved ..)
    · exact .refl s

theorem sendWhile_unmoved (n : Nat) (s : State) : Unmoved s (sendWhile n s) := by
  induction n generalizing s with
  | zero => exact .refl s
  | succ n ih =>
    unfold sendWhile
    split
    · exact .ite (((setRge_unmoved _ s).trans (buildRequest_unmoved ..)).trans (ih _)) (.refl s)
    · exact .refl s

theorem sendQueued_unmoved (s : State) : Unmoved s (sendQueued s) := sendWhile_unmoved ..

theorem enqueue_unmoved (k attempt : Nat) (purpose : Purpose) (s : State) : Unmoved s (enqueue k attempt purpose s) :=
  ((setRge_unmoved _ s).trans (setRegistration_unmoved ..)).trans (sendQueued_unmoved _)

theorem failAttempt_unmoved (k : Nat) (s : State) : Unmoved s (failAttempt k s) := by
  unfold failAttempt
  split
  · exact enqueue_unmoved ..
  · exact turnAway_unmoved ..
  · exact (losePartner_unmoved ..).trans (setCond_unmoved ..)
  · exact .refl s

theorem expireEntry_unmoved (o : Outstanding) (s : State) : Unmoved s (expireEntry o s) := by
  have hgone : Unmoved s (removeEntry o.correlation s) := setRge_unmoved _ s
  exact .trans (.ite hgone (hgone.trans (failAttempt_unmoved ..))) (sendQueued_unmoved _)

theorem linkDeparted_unmoved (l : LinkId) (s : State) : Unmoved s (linkDeparted l s) := forEach_unmoved expireEntry_unmoved s

theorem takeAnswer_unmoved (o : Outstanding) (accept : Bool) (cause : Nat) (s : State) :
    Unmoved s (takeAnswer o accept cause s) := by
  unfold takeAnswer
  refine .ite (.refl s) ?_
  split
  · exact .refl s
  · split
    · refine .ite (enqueue_unmoved ..) ?_
      split
      · exact admitPartner_unmoved ..
      · exact settlePartner_unmoved ..
      · exact turnAway_unmoved ..
      · exact losePartner_unmoved ..
    · exact .refl s

theorem matchAnswer_unmoved (l : LinkId) (correlation : Nat) (accept : Bool) (cause : Nat) (s : State) :
    Unmoved s (matchAnswer l correlation accept cause s) := by
  have hcount : Unmoved s (countUnmatched s) := setRge_unmoved _ s
  unfold matchAnswer
  split
  · exact hcount
  · exact .ite (((setRge_unmoved _ s).trans (takeAnswer_unmoved ..)).trans (sendQueued_unmoved _)) hcount

theorem reevaluateContext_unmoved (k : Nat) (s : State) : Unmoved s (reevaluateContext k s) := by
  have hcancel := cancelRegistration_unmoved k s
  unfold reevaluateContext
  split
  · exact .refl s
  · split
    · dsimp only
      split
      · exact (hcancel.trans (modContext_unmoved ..)).trans (restrict_unmoved ..)
      · exact (hcancel.trans (modContext_unmoved ..)).trans (restrict_unmoved ..)
      · exact .ite (.refl s) (.ite (enqueue_unmoved ..) (.refl s))
    · exact .refl s

theorem subReregister_unmoved (k : Nat) (s : State) : Unmoved s (subReregister k s).state := by
  unfold subReregister
  split
  · exact .refl s
  · split
    · exact .refl s
    · split
      · split
        · exact .refl s
        · exact .refl s
        · exact enqueue_unmoved ..
      · exact .refl s

theorem rgeRestartEffect_unmoved (s : State) : Unmoved s (rgeRestartEffect s) := .of_parts rfl rfl rfl

/-! ### Attaching (R101 to R104) -/

theorem partnerDecision_unmoved (k : Nat) (c : CellId) (sid : Sid) (e : PartnerEntry) (s : State) :
    Unmoved s (partnerDecision k c sid e s) := by
  unfold partnerDecision
  split
  · exact (sendDeck_unmoved ..).trans (freeContext_unmoved ..)
  · exact (modContext_unmoved ..).trans (admitContext_unmoved ..)
  · exact (modContext_unmoved ..).trans (enqueue_unmoved ..)

theorem newAttach_unmoved (c : CellId) (sid : Sid) (s : State) : Unmoved s (newAttach c sid s) :=
  .ite (sendDeck_unmoved ..)
    (.ite (sendDeck_unmoved ..)
      (((setContext_unmoved ..).trans (raiseAttached_unmoved ..)).trans (partnerDecision_unmoved ..)))

theorem moveContext_unmoved (k : Nat) (x : Context) (c : CellId) (s : State) : Unmoved s (moveContext k x c s) := by
  have hput := setContext_unmoved k { x with cell := c, orphan := none } s
  exact .ite hput ((hput.trans (lowerAttached_charged ..).unmoved).trans (raiseAttached_unmoved ..))

theorem reattach_unmoved (k : Nat) (x : Context) (c : CellId) (s : State) : Unmoved s (reattach k x c s) :=
  .ite (sendDeck_unmoved ..)
    (.ite (sendDeck_unmoved ..)
      (.ite ((moveContext_unmoved ..).trans (sendAdmit_unmoved ..)) (moveContext_unmoved ..)))

theorem attachAtSbt_unmoved (c : CellId) (sid : Sid) (s : State) : Unmoved s (attachAtSbt c sid s) := by
  unfold attachAtSbt
  refine .ite (sendDeck_unmoved ..) ?_
  split
  · exact sendDeck_unmoved ..
  · exact sendDeck_unmoved ..
  · exact sendDeck_unmoved ..
  · split
    · exact reattach_unmoved ..
    · exact newAttach_unmoved ..

/-! ### Links (R20 to R41) -/

theorem modLink_unmoved (l : LinkId) (f : Link → Link) (s : State) : Unmoved s (modLink l f s) := .of_parts rfl rfl rfl

/-- A change of what the LKM holds. -/
theorem setLkm_unmoved (m : Lkm) (s : State) : Unmoved s { s with lkm := m } := .of_parts rfl rfl rfl

theorem mailCapacity_unmoved (n : Nat) (s : State) : Unmoved s (mailCapacity n s) := .of_parts rfl rfl rfl

theorem enterState_unmoved (l : LinkId) (state : LinkState) (s : State) : Unmoved s (enterState l state s) := by
  refine (modLink_unmoved l (Link.entering state s.shipTime s.settings.drainLimit) s).trans ?_
  cases state with
  | engaging => exact sendTerminal_unmoved ..
  | draining => exact sendTerminal_unmoved ..
  | fault => exact .trans (.ite (sendTerminal_unmoved ..) (.refl _)) (setCond_unmoved ..)
  | off => exact .refl _
  | down => exact .refl _
  | probing => exact .refl _
  | ready => exact .refl _
  | carrying => exact .refl _

theorem handClass_unmoved (s : State) : Unmoved s (handClass s) := .ite (.refl s) (.of_parts rfl rfl rfl)

theorem carryingChanged_unmoved (s : State) : Unmoved s (carryingChanged s) :=
  ((mailCapacity_unmoved ..).trans (handClass_unmoved _)).trans (setCond_unmoved ..)

theorem moveLink_unmoved (l : LinkId) (state : LinkState) (s : State) : Unmoved s (moveLink l state s) := by
  have henter := enterState_unmoved l state s
  have hhanded : Unmoved s
      (if (s.link l).state = .carrying then carryingChanged (enterState l state s) else enterState l state s) :=
    .ite (henter.trans (carryingChanged_unmoved _)) henter
  exact .ite (hhanded.trans (linkDeparted_unmoved ..)) hhanded

theorem selectUnder_unmoved (kinds : KindSet) (s : State) : Unmoved s (selectUnder kinds s) := by
  unfold selectUnder
  refine .ite (.refl s) ?_
  split
  · exact .refl s
  · split
    · exact enterState_unmoved ..
    · exact .ite (enterState_unmoved ..) (.refl s)

theorem select_unmoved (s : State) : Unmoved s (select s) := selectUnder_unmoved ..

theorem moveAndSelect_unmoved (l : LinkId) (state : LinkState) (s : State) : Unmoved s (moveAndSelect l state s) :=
  (moveLink_unmoved ..).trans (select_unmoved _)

theorem carrierStep_unmoved (l : LinkId) (carrier : Bool) (s : State) : Unmoved s (carrierStep l carrier s) := by
  unfold carrierStep
  split
  · exact moveLink_unmoved ..
  · exact moveLink_unmoved ..
  · exact moveLink_unmoved ..
  · exact moveLink_unmoved ..
  · exact moveLink_unmoved ..
  · exact .refl s

theorem qualityStep_unmoved (l : LinkId) (s : State) : Unmoved s (qualityStep l s) := by
  unfold qualityStep
  extract_lets low t
  have hcounted : Unmoved s t := modLink_unmoved ..
  refine .ite ?_ hcounted
  split
  · exact hcounted.trans (moveLink_unmoved ..)
  · exact hcounted.trans (moveLink_unmoved ..)
  · exact hcounted.trans (moveLink_unmoved ..)
  · exact hcounted

theorem readyCheck_unmoved (l : LinkId) (s : State) : Unmoved s (readyCheck l s) := .ite (moveLink_unmoved ..) (.refl s)

theorem afterRecord_unmoved (l : LinkId) (carrier : Bool) (s : State) : Unmoved s (afterRecord l carrier s) := by
  have hstep := carrierStep_unmoved l carrier s
  exact .ite hstep ((hstep.trans (qualityStep_unmoved ..)).trans (readyCheck_unmoved ..))

theorem takeStatus_unmoved (l : LinkId) (r : StatusRecord) (s : State) : Unmoved s (takeStatus l r s) := by
  have hrecorded := (modLink_unmoved l (Link.record r) s).trans (afterRecord_unmoved l r.carrier _)
  exact .trans (.ite (hrecorded.trans (mailCapacity_unmoved ..)) hrecorded) (select_unmoved _)

theorem sendProbe_unmoved (l : LinkId) (s : State) : Unmoved s (sendProbe l s) :=
  .ite ((modLink_unmoved ..).trans (sendTerminal_unmoved ..)) (.refl s)

theorem probeStep_unmoved (l : LinkId) (s : State) : Unmoved s (probeStep l s) :=
  .ite ((modLink_unmoved ..).trans (moveLink_unmoved ..))
    (((modLink_unmoved ..).trans (modLink_unmoved ..)).trans (sendProbe_unmoved ..))

theorem selectIfMoved_unmoved (before s : State) : Unmoved s (selectIfMoved before s) := .ite (select_unmoved s) (.refl s)

theorem completeEngagement_unmoved (l : LinkId) (s : State) : Unmoved s (completeEngagement l s) := by
  have hdrained (c : Option LinkId) (t : State) : Unmoved t (drainPrevious c t) := by
    cases c with
    | none => exact .refl t
    | some m => exact enterState_unmoved ..
  have hcarrying := (enterState_unmoved l .carrying s).trans (hdrained s.carryingLink _)
  exact (((hcarrying.trans (setLkm_unmoved _ _)).trans (carryingChanged_unmoved _)).trans (sendQueued_unmoved _)).trans
    (select_unmoved _)

theorem leaveDraining_unmoved (l : LinkId) (s : State) : Unmoved s (leaveDraining l s) := moveAndSelect_unmoved ..

theorem zoneCheck_unmoved (kinds : KindSet) (s : State) : Unmoved s (zoneCheck kinds s) := by
  have hdrain (items : List LinkId) (t : State) : Unmoved t (forEach items (fun l => moveLink l .draining) t) :=
    forEach_unmoved (fun l => moveLink_unmoved l .draining) t
  exact ((hdrain _ s).trans (hdrain _ _)).trans (selectUnder_unmoved ..)

theorem linkEnable_unmoved (link kind : Nat) (s : State) : Unmoved s (linkEnable link kind s).state := by
  unfold linkEnable
  split
  · split
    · exact (modLink_unmoved ..).trans (moveAndSelect_unmoved ..)
    · exact .refl s
  · exact .refl s

theorem linkDisable_unmoved (link : Nat) (s : State) : Unmoved s (linkDisable link s).state := by
  unfold linkDisable
  split
  · exact .refl s
  · split
    · exact .refl s
    · exact ((Unmoved.ite (sendTerminal_unmoved ..) (.refl s)).trans (modLink_unmoved ..)).trans (moveAndSelect_unmoved ..)

theorem linkSet_unmoved (link ceiling bonus : Nat) (s : State) : Unmoved s (linkSet link ceiling bonus s).state := by
  unfold linkSet
  split
  next => exact .refl s
  next l _ =>
    have hset := modLink_unmoved l (Link.configured (clamp 1 16383 ceiling) (clamp 0 50 bonus)) s
    exact .trans (.ite (hset.trans (mailCapacity_unmoved ..)) hset) (select_unmoved _)

/-! ### The control port (R181 to R183) -/

/-- A change of what the CTP holds. -/
theorem setCtp_unmoved (p : Ctp) (s : State) : Unmoved s { s with ctp := p } := .of_parts rfl rfl rfl

theorem portError_unmoved (c : PortCause) (s : State) : Unmoved s (portError c s) := .of_parts rfl rfl rfl

theorem arrive_unmoved (tag code : Nat) (body : List Byte) (s : State) : Unmoved s (arrive tag code body s) :=
  .ite (setCtp_unmoved _ s) (.ite (.of_parts rfl rfl rfl) (portError_unmoved ..))

theorem appendReply_unmoved (tag : Nat) (status : Status) (body : List Byte) (s : State) :
    Unmoved s (appendReply tag status body s) := .of_parts rfl rfl rfl

theorem takeRequest_badArg_unmoved (e : InEntry) (s : State) : Unmoved s (takeRequest e (answer .badArg) s) :=
  .ite (appendReply_unmoved ..) (.ite (appendReply_unmoved ..) (appendReply_unmoved ..))

theorem answerMalformed_unmoved (n : Nat) (s : State) : Unmoved s (answerMalformed n s) := by
  induction n generalizing s with
  | zero => exact .refl s
  | succ n ih =>
    unfold answerMalformed
    refine .ite (.refl s) ?_
    split
    · exact .refl s
    · exact .ite (.refl s) ((takeRequest_badArg_unmoved ..).trans (ih _))

theorem answerUnowned_unmoved (s : State) : Unmoved s (answerUnowned s) := answerMalformed_unmoved ..

theorem setReceiver_unmoved (r : Receiver) (s : State) : Unmoved s (setReceiver r s) := setCtp_unmoved _ s

theorem huntByte_unmoved (b : Byte) (s : State) : Unmoved s (huntByte b s) := .ite (setReceiver_unmoved ..) (.refl s)

theorem frameComplete_unmoved (taken : List Byte) (s : State) : Unmoved s (frameComplete taken s) := by
  unfold frameComplete
  refine .ite (portError_unmoved ..) ?_
  split
  · exact .ite ((setReceiver_unmoved ..).trans (arrive_unmoved ..)) (portError_unmoved ..)
  · exact setReceiver_unmoved ..

theorem receiveByte_unmoved (s : State) (b : Byte) : Unmoved s (receiveByte s b) := by
  unfold receiveByte
  split
  · exact huntByte_unmoved ..
  · exact .ite ((portError_unmoved ..).trans (huntByte_unmoved ..))
      (.ite (setReceiver_unmoved ..)
        (.ite (portError_unmoved ..) (.ite (setReceiver_unmoved ..) (frameComplete_unmoved ..))))

theorem headLeaves_unmoved (s : State) : Unmoved s (headLeaves s) := .of_parts (by simp) (by simp) (by simp)

theorem clockByte_unmoved (s : State) (b : Byte) : Unmoved s (clockByte s b) :=
  ((Unmoved.of_parts (clockOut_cap s) (clockOut_settings s) (clockOut_duc s)).trans (receiveByte_unmoved ..)).trans
    (answerUnowned_unmoved _)

theorem clockBytes_unmoved (bytes : List Byte) (s : State) : Unmoved s (bytes.foldl clockByte s) := by
  induction bytes generalizing s with
  | nil => exact .refl s
  | cons b t ih => exact (clockByte_unmoved s b).trans (ih _)

/-! ### Zones (R4 to R15) -/

theorem changeZone_unmoved (cause : ChangeCause) (zone : ZoneId) (s : State) : Unmoved s (changeZone cause zone s) :=
  .of_parts rfl rfl rfl

/-- A change of what the PZU holds. -/
theorem setPzu_unmoved (p : Pzu) (s : State) : Unmoved s { s with pzu := p } := .of_parts rfl rfl rfl

theorem recordFix_unmoved (lat lon : Int) (quality fixTime : Nat) (s : State) :
    Unmoved s (recordFix lat lon quality fixTime s) :=
  .ite ((setPzu_unmoved _ s).trans (setCond_unmoved ..)) (setPzu_unmoved _ s)

theorem confirm_unmoved (zone : ZoneId) (s : State) : Unmoved s (confirm zone s) :=
  .ite (setPzu_unmoved _ s) (.ite ((setPzu_unmoved _ s).trans (changeZone_unmoved ..)) (setPzu_unmoved _ s))

theorem fixRule_unmoved (lat lon : Int) (quality fixTime : Nat) (s : State) :
    Unmoved s (fixRule lat lon quality fixTime s).state := by
  have hrecord := recordFix_unmoved lat lon quality (fixTime % 4294967296) s
  unfold fixRule
  split
  · exact .refl s
  · split
    · exact .refl s
    · dsimp only
      split
      · exact hrecord.trans (confirm_unmoved ..)
      · exact hrecord

theorem setForced_unmoved (z : Option Nat) (s : State) : Unmoved s (setForced z s) := setPzu_unmoved _ s

theorem zoneForce_unmoved (zone : Nat) (s : State) : Unmoved s (zoneForce zone s).state := by
  unfold zoneForce
  split
  · exact .refl s
  · exact .ite (setForced_unmoved ..) ((setForced_unmoved ..).trans (changeZone_unmoved ..))

theorem zoneRelease_unmoved (s : State) : Unmoved s (zoneRelease s).state := by
  unfold zoneRelease
  split
  · exact .refl s
  · exact setForced_unmoved ..

theorem settleTable_unmoved (t : ZoneTable) (s : State) : Unmoved s (settleTable t s) := by
  unfold settleTable
  dsimp only
  split
  · exact .ite (.of_parts rfl rfl rfl) (.of_parts rfl rfl rfl)
  · exact .of_parts rfl rfl rfl

/-! ### The control port's own requests (R186 to R192) -/

theorem unlock_unmoved (code : Code) (s : State) : Unmoved s (unlock code s).state := by
  have hlock (b : Bool) (n : Nat) : Unmoved s (setLock b n s) := setCtp_unmoved _ s
  unfold unlock
  split
  · exact .refl s
  · exact .refl s
  · split
    · exact hlock ..
    · exact .ite ((hlock ..).trans (setCtp_unmoved _ _)) (hlock ..)

theorem lockPort_unmoved (s : State) : Unmoved s (lockPort s).state := by
  unfold lockPort
  split
  · exact .refl s
  · exact setCtp_unmoved _ s

theorem setLoad_unmoved (l : Option Load) (s : State) : Unmoved s (setLoad l s) := setCtp_unmoved _ s

theorem loadBegin_unmoved (kind total checksum : Nat) (s : State) : Unmoved s (loadBegin kind total checksum s).state := by
  unfold loadBegin
  split
  · exact .refl s
  · split
    · exact setLoad_unmoved ..
    · exact .refl s

theorem loadData_unmoved (offset : Nat) (bytes : List Byte) (s : State) : Unmoved s (loadData offset bytes s).state := by
  unfold loadData
  split
  · exact .refl s
  · split
    · exact .refl s
    · exact setLoad_unmoved ..

theorem commitTable_unmoved {kind : TableKind} {bs : List Byte} {s u : State} {body : List Byte}
    (h : commitTable kind bs s = some (u, body)) : Unmoved s u := by
  cases kind with
  | zone =>
    obtain ⟨t, -, he⟩ := Option.map_eq_some_iff.mp h
    obtain ⟨rfl, -⟩ := Prod.mk.inj he
    exact settleTable_unmoved t s
  | partner =>
    obtain ⟨t, -, he⟩ := Option.map_eq_some_iff.mp h
    obtain ⟨rfl, -⟩ := Prod.mk.inj he
    exact .of_parts rfl rfl rfl
  | tariff =>
    obtain ⟨t, -, he⟩ := Option.map_eq_some_iff.mp h
    obtain ⟨rfl, -⟩ := Prod.mk.inj he
    exact .of_parts rfl rfl rfl
  | homeGroup =>
    obtain ⟨t, -, he⟩ := Option.map_eq_some_iff.mp h
    obtain ⟨rfl, -⟩ := Prod.mk.inj he
    exact .of_parts rfl rfl rfl

theorem loadCommit_unmoved (s : State) : Unmoved s (loadCommit s).state := by
  have hclosed : Unmoved s (setLoad none s) := setLoad_unmoved ..
  unfold loadCommit
  split
  next => exact .refl s
  next =>
    dsimp only
    split
    next =>
      split
      next => exact hclosed
      next hcommit => exact hclosed.trans (commitTable_unmoved hcommit)
    next => exact hclosed

theorem storeSave_unmoved (s : State) : Unmoved s (storeSave s).state := by
  unfold storeSave
  split
  · exact .refl s
  · exact .of_parts rfl rfl rfl

theorem setLamp_unmoved (mode : Option Pattern) (s : State) : Unmoved s (setLamp mode s) := by
  cases mode <;> exact ⟨rfl, rfl, rfl, rfl, fun _ => rfl, fun _ => rfl, fun _ => rfl⟩

theorem lampSet_unmoved (pattern : Nat) (s : State) : Unmoved s (lampSet pattern s).state := by
  unfold lampSet
  split
  · exact .refl s
  · exact setLamp_unmoved ..

/-! ### Queries (R16, R42, R74, R117, R173, R194) -/

theorem zoneQuery_unmoved (zone : Option Nat) (s : State) : Unmoved s (zoneQuery zone s).state := by
  unfold zoneQuery
  split
  · exact .refl s
  · split <;> exact .refl s

theorem linkQuery_unmoved (link : Nat) (s : State) : Unmoved s (linkQuery link s).state := by
  unfold linkQuery
  split <;> exact .refl s

theorem subQuery_unmoved (k : Nat) (s : State) : Unmoved s (subQuery k s).state := by
  unfold subQuery
  split
  · exact .refl s
  · split
    · exact .refl s
    · split <;> exact .refl s

theorem subFind_unmoved (sid : Sid) (s : State) : Unmoved s (subFind sid s).state := by
  unfold subFind
  split <;> exact .refl s

theorem ticketRead_unmoved (max : Nat) (s : State) : Unmoved s (ticketRead max s).state := by
  unfold ticketRead
  split <;> exact .refl s

theorem statusRead_unmoved (block : Nat) (s : State) : Unmoved s (statusRead block s).state := by
  unfold statusRead
  split <;> exact .refl s

theorem settingsGet_unmoved (setting : Nat) (s : State) : Unmoved s (settingsGet setting s).state := by
  unfold settingsGet
  split <;> exact .refl s

theorem cellQuery_unmoved (cell clear : Nat) (s : State) : Unmoved s (cellQuery cell clear s).state := by
  unfold cellQuery
  split
  · exact .refl s
  · split
    · exact .refl s
    · split
      · exact .refl s
      · split
        · exact modCell_unmoved (f := fun x => { x with badFrames := 0 }) fun _ => ⟨rfl, rfl, rfl⟩
        · exact .refl s

end Sys2Proof.Proofs
end

section
/-! SUPPORT. GrantLaw and RetuneLaw under the operations that move cells, grants or the retune list (R45 to R53, R83 to R92), and
the settling of O4. -/

namespace Sys2Proof.Proofs

open Sys2Proof.Machine

/-! ### The two laws -/

/-- What GrantLaw says of all but the grants: a recomputation needs no more. -/
structure GrantBase (s : State) : Prop where
  pool : s.cap.pool = s.cap.carried - s.settings.reserve
  deep (c : CellId) : (s.cell c).deepTimer.isSome = true → (s.cell c).state = .doze

/-- A cell in a state may stand on the retune list. -/
def Listable (st : CellState) : Prop := st = .serving ∨ st = .doze ∨ st = .deep

/-- A step keeps each of the two laws. -/
structure Kept (s t : State) : Prop where
  grants : GrantLaw s → GrantLaw t
  retunes : RetuneLaw s → RetuneLaw t

namespace Kept

variable {s t u : State}

theorem refl (s : State) : Kept s s := ⟨id, id⟩

theorem trans (h : Kept s t) (g : Kept t u) : Kept s u := ⟨g.grants ∘ h.grants, g.retunes ∘ h.retunes⟩

theorem ite {p : Prop} [Decidable p] (h : p → Kept s t) (g : ¬p → Kept s u) : Kept s (if p then t else u) := by
  split
  next hp => exact h hp
  next hp => exact g hp

end Kept

/-- A loop whose every turn keeps the laws. -/
theorem forEach_kept {α : Type} {items : List α} {f : α → State → State} (h : ∀ a t, Kept t (f a t)) (s : State) :
    Kept s (forEach items f s) :=
  forEach_keeps (property := Kept s) (fun a _ t ht => ht.trans (h a t)) (.refl s)

namespace GrantBase

variable {s t : State}

theorem of_law (h : GrantLaw s) : GrantBase s := by
  obtain ⟨hpool, -, -, hdeep⟩ := h
  exact ⟨hpool, hdeep⟩

theorem unmoved (h : GrantBase s) (m : Unmoved s t) : GrantBase t where
  pool := by rw [m.pool, m.carried, m.reserve, h.pool]
  deep c := by rw [m.deepTimer, m.state]; exact h.deep c

theorem modCell {c : CellId} {f : Cell → Cell} (h : GrantBase s)
    (hf : (f (s.cell c)).deepTimer.isSome = true → (f (s.cell c)).state = .doze) : GrantBase (modCell c f s) where
  pool := h.pool
  deep d := by
    rw [Machine.modCell, setCell_cell]
    split
    · exact hf
    · exact h.deep d

/-- A recomputation makes GrantLaw true. -/
theorem recompute (h : GrantBase s) : GrantLaw (recompute s) := by
  refine ⟨by simpa using h.pool, ?_, fun c hc => ?_, fun c => ?_⟩
  · rw [grantSum_recompute, recompute_cap]
    split
    next hfit => exact hfit
    next => exact le_rfl
  · rw [recompute_cell] at hc ⊢
    exact share_not_serving hc _
  · rw [recompute_cell]
    exact h.deep c

end GrantBase

theorem Unmoved.kept {s t : State} (m : Unmoved s t) : Kept s t where
  grants h := by
    obtain ⟨hpool, hsum, hzero, hdeep⟩ := h
    refine ⟨(GrantBase.mk hpool hdeep).unmoved m |>.pool, ?_, fun c => ?_, (GrantBase.mk hpool hdeep).unmoved m |>.deep⟩
    · simpa only [State.grantSum, m.grant, m.pool] using hsum
    · rw [m.state, m.grant]
      exact hzero c
  retunes h := by
    obtain ⟨hnodup, hlist⟩ := h
    refine ⟨by rwa [m.retuneList], fun c hc => ?_⟩
    rw [m.retuneList] at hc
    rw [m.state]
    exact hlist c hc

theorem recompute_kept (s : State) : Kept s (recompute s) where
  grants h := (GrantBase.of_law h).recompute
  retunes h := by
    obtain ⟨hnodup, hlist⟩ := h
    exact ⟨by simpa using hnodup, by simpa using hlist⟩

/-! ### A change of one cell -/

theorem grantSum_setCell_le {c : CellId} {x : Cell} {s : State} (h : x.grant ≤ (s.cell c).grant) :
    (setCell c x s).grantSum ≤ s.grantSum := by
  refine List.sum_le_sum fun d _ => ?_
  rw [setCell_cell]
  split
  next hd => rwa [hd]
  next => exact le_rfl

theorem grantLaw_modCell {c : CellId} {f : Cell → Cell} {s : State} (h : GrantLaw s)
    (hgrant : (f (s.cell c)).grant ≤ (s.cell c).grant)
    (hzero : (f (s.cell c)).state ≠ .serving → (f (s.cell c)).grant = 0)
    (hdeep : (f (s.cell c)).deepTimer.isSome = true → (f (s.cell c)).state = .doze) : GrantLaw (modCell c f s) := by
  have hbase := (GrantBase.of_law h).modCell hdeep
  obtain ⟨-, hsum, hrest, -⟩ := h
  refine ⟨hbase.pool, (grantSum_setCell_le hgrant).trans hsum, fun d => ?_, hbase.deep⟩
  rw [modCell, setCell_cell]
  split
  · exact hzero
  · exact hrest d

theorem retuneLaw_modCell {c : CellId} {f : Cell → Cell} {s : State} (h : RetuneLaw s)
    (hf : c ∈ s.duc.retuneList → Listable (f (s.cell c)).state) : RetuneLaw (modCell c f s) := by
  obtain ⟨hnodup, hlist⟩ := h
  refine ⟨hnodup, fun d hd => ?_⟩
  rw [modCell, setCell_cell]
  split
  next hdc => exact hf (hdc ▸ hd)
  next => exact hlist d hd

/-- A cell not in a listable state is not on the retune list. -/
theorem not_listed {c : CellId} {s : State} (h : RetuneLaw s) (hs : ¬Listable (s.cell c).state) : c ∉ s.duc.retuneList := by
  obtain ⟨-, hlist⟩ := h
  exact fun hc => hs (hlist c hc)

/-- A cell in another state than DOZE has no deep timer running. -/
theorem deepTimer_eq_none {c : CellId} {s : State} (h : GrantLaw s) (hs : (s.cell c).state ≠ .doze) :
    (s.cell c).deepTimer = none :=
  Option.not_isSome_iff_eq_none.mp fun hd => hs ((GrantBase.of_law h).deep c hd)

/-- A cell changed and then recomputed without: what it held is no matter. -/
theorem leaveServing_kept {c : CellId} {f : Cell → Cell} {s : State}
    (hdeep : (f (s.cell c)).deepTimer.isSome = true → (f (s.cell c)).state = .doze)
    (hlist : c ∈ s.duc.retuneList → Listable (f (s.cell c)).state) : Kept s (leaveServing c (modCell c f s)) where
  grants h := by
    have hbase := (GrantBase.of_law h).modCell hdeep
    exact (hbase.modCell (f := fun x => { x with grant := 0 }) (hbase.deep c)).recompute
  retunes h := by
    have hchanged := retuneLaw_modCell h hlist
    refine (recompute_kept _).retunes (retuneLaw_modCell hchanged fun hc => ?_)
    obtain ⟨-, hall⟩ := hchanged
    exact hall c hc

/-- A cell changed that does not hold a grant, so that none need be taken back. -/
theorem modCell_kept {c : CellId} {f : Cell → Cell} {s : State} (hs : (s.cell c).state ≠ .serving)
    (hgrant : (f (s.cell c)).grant = (s.cell c).grant)
    (hdeep : GrantLaw s → (f (s.cell c)).deepTimer.isSome = true → (f (s.cell c)).state = .doze)
    (hlist : RetuneLaw s → c ∈ s.duc.retuneList → Listable (f (s.cell c)).state) : Kept s (modCell c f s) where
  grants h := by
    obtain ⟨-, -, hzero, -⟩ := id h
    exact grantLaw_modCell h hgrant.le (fun _ => hgrant.trans (hzero c hs)) (hdeep h)
  retunes h := retuneLaw_modCell h (hlist h)

/-- A cell leaves its state, and the CAP takes its leaving where it was SERVING (R52). -/
theorem leave_kept {c : CellId} {f : Cell → Cell} {s : State} (hgrant : (f (s.cell c)).grant = (s.cell c).grant)
    (hdeep : (f (s.cell c)).deepTimer.isSome = true → (f (s.cell c)).state = .doze)
    (hlist : c ∈ s.duc.retuneList → Listable (f (s.cell c)).state) :
    Kept s (if (s.cell c).state = .serving then leaveServing c (modCell c f s) else modCell c f s) :=
  .ite (fun _ => leaveServing_kept hdeep hlist) fun hs => modCell_kept hs hgrant (fun _ => hdeep) fun _ => hlist

/-- A cell enters SERVING with no deep timer running (R51). -/
theorem modCell_serving_kept {c : CellId} {f : Cell → Cell} {s : State} (hgrant : (f (s.cell c)).grant = (s.cell c).grant)
    (hserving : (f (s.cell c)).state = .serving) (hdeep : GrantLaw s → (f (s.cell c)).deepTimer = none) :
    Kept s (modCell c f s) where
  grants h := grantLaw_modCell h hgrant.le (fun hs => absurd hserving hs) fun hd => by simp [hdeep h] at hd
  retunes h := retuneLaw_modCell h fun _ => .inl hserving

/-! ### The retune list -/

theorem setRetuneList_kept {l : List CellId} {s : State}
    (h : RetuneLaw s → l.Nodup ∧ ∀ c ∈ l, Listable (s.cell c).state) : Kept s (setRetuneList l s) := ⟨id, h⟩

theorem leaveRetuneList_kept (c : CellId) (s : State) : Kept s (leaveRetuneList c s) :=
  setRetuneList_kept fun ⟨hnodup, hlist⟩ => ⟨hnodup.filter _, fun d hd => hlist d (List.mem_filter.mp hd).1⟩

theorem not_mem_leaveRetuneList (c : CellId) (s : State) : c ∉ (leaveRetuneList c s).duc.retuneList := by
  simp [leaveRetuneList]

@[simp] theorem setRetuneList_cell (l : List CellId) (s : State) (c : CellId) : (setRetuneList l s).cell c = s.cell c := rfl

@[simp] theorem leaveRetuneList_cell (c d : CellId) (s : State) : (leaveRetuneList c s).cell d = s.cell d := rfl

theorem leaveRetuneList_modCell (c d : CellId) (f : Cell → Cell) (s : State) :
    leaveRetuneList c (modCell d f s) = modCell d f (leaveRetuneList c s) := rfl

theorem sendDeck_retuneList (c : CellId) (f : DeckFrame) (s : State) :
    (sendDeck c f s).duc.retuneList = s.duc.retuneList := (sendDeck_unmoved c f s).retuneList

theorem sendDeck_cell (c d : CellId) (f : DeckFrame) (s : State) : (sendDeck d f s).cell c = s.cell c := by
  simp only [State.cell, (sendDeck_settled d f s).duc]

/-! ### Waking, dozing, dispatching and resuming (R80 to R88) -/

theorem loadIdle_unmoved (c : CellId) (s : State) : Unmoved s (loadIdle c s) := modCell_unmoved fun _ => ⟨rfl, rfl, rfl⟩

theorem armHeartbeat_unmoved (c : CellId) (s : State) : Unmoved s (armHeartbeat c s) :=
  modCell_unmoved fun _ => ⟨rfl, rfl, rfl⟩

theorem wakeCell_kept (c : CellId) (s : State) : Kept s (wakeCell c s) :=
  (((sendDeck_unmoved ..).kept.trans (modCell_serving_kept rfl rfl fun _ => rfl)).trans
    (loadIdle_unmoved ..).kept).trans (recompute_kept _)

theorem wakeAll_kept (s : State) : Kept s (wakeAll s) := forEach_kept wakeCell_kept s

theorem dozeCell_kept (c : CellId) (s : State) : Kept s (dozeCell c s) :=
  (sendDeck_unmoved ..).kept.trans (leaveServing_kept (fun _ => rfl) fun _ => .inr (.inl rfl))

theorem dispatchCell_kept (c : CellId) (s : State) : Kept s (dispatchCell c s) := by
  have hsent := (leaveRetuneList_kept c s).trans
    (sendDeck_unmoved c (.retune s.zone.beacon s.newestEpoch.number) (leaveRetuneList c s)).kept
  refine hsent.trans ?_
  have hcell : (sendDeck c (.retune s.zone.beacon s.newestEpoch.number) (leaveRetuneList c s)).cell c = s.cell c :=
    sendDeck_cell ..
  unfold dispatchCell
  rw [← hcell]
  refine leave_kept rfl (fun hd => nomatch hd) fun hc => ?_
  rw [sendDeck_retuneList] at hc
  exact absurd hc (not_mem_leaveRetuneList c s)

theorem dispatchWhile_kept (limit n : Nat) (s : State) : Kept s (dispatchWhile limit n s) := by
  induction n generalizing s with
  | zero => exact .refl s
  | succ n ih =>
    unfold dispatchWhile
    split
    · exact .refl s
    · exact .ite (fun _ => (dispatchCell_kept ..).trans (ih _)) fun _ => .refl s

theorem dispatchUpTo_kept (limit : Nat) (s : State) : Kept s (dispatchUpTo limit s) := dispatchWhile_kept ..

theorem dispatch_kept (s : State) : Kept s (dispatch s) := dispatchUpTo_kept ..

/-- A SILENT cell entering SERVING, before the CAP's entry. -/
theorem resumeCell_grantLaw {beacon : Option Beacon} {c : CellId} {s : State} (h : GrantLaw s)
    (hdeep : (s.cell c).deepTimer = none) : GrantLaw (resumeCell beacon c s) := by
  have hsent := (GrantBase.of_law h).unmoved (sendDeck_unmoved c (.resume beacon s.newestEpoch.number) s)
  refine ((hsent.modCell fun hd => ?_).unmoved (loadIdle_unmoved ..)).recompute
  rw [sendDeck_cell] at hd
  simp [hdeep] at hd

theorem resumeCell_retuneLaw {beacon : Option Beacon} {c : CellId} {s : State} (h : RetuneLaw s) :
    RetuneLaw (resumeCell beacon c s) := by
  have hsent := (sendDeck_unmoved c (.resume beacon s.newestEpoch.number) s).kept.retunes h
  exact (recompute_kept _).retunes ((loadIdle_unmoved ..).kept.retunes (retuneLaw_modCell hsent fun _ => .inl rfl))

/-- A resume moves no deep timer. -/
theorem resumeCell_deepTimer (beacon : Option Beacon) (c d : CellId) (s : State) :
    ((resumeCell beacon c s).cell d).deepTimer = (s.cell d).deepTimer := by
  simp only [resumeCell, enterServing, recompute_cell, (loadIdle_unmoved ..).deepTimer, modCell, setCell_cell]
  split
  next hd => simp only [hd, sendDeck_cell]
  next => simp only [sendDeck_cell]

/-! ### Zone changes (R86, R88, R91, R92) -/

/-- The SILENT cells resumed in turn. -/
theorem resumeAll_kept (beacon : Option Beacon) (s : State) :
    Kept s (forEach (allCells.filter (fun c => (s.cell c).state == .silent)) (resumeCell beacon) s) where
  grants h := by
    have hloop := forEach_keeps (items := allCells.filter (fun c => (s.cell c).state == .silent)) (f := resumeCell beacon)
      (property := fun t => GrantLaw t ∧ ∀ d, (t.cell d).deepTimer = (s.cell d).deepTimer)
      (fun c hc t ⟨ht, hsame⟩ => ?_) ⟨h, fun _ => rfl⟩
    · exact hloop.1
    · have hsilent : (s.cell c).state = .silent := by simpa [mem_allCells] using hc
      have hdeep : (t.cell c).deepTimer = none := (hsame c).trans (deepTimer_eq_none h (by simp [hsilent]))
      exact ⟨resumeCell_grantLaw ht hdeep, fun d => (resumeCell_deepTimer beacon c d t).trans (hsame d)⟩
  retunes h := forEach_keeps (property := RetuneLaw) (fun _ _ _ ht => resumeCell_retuneLaw ht) h

theorem listStale_kept (beacon : Option Beacon) (s : State) : Kept s (listStale beacon s) := by
  have hkept : Kept s (setRetuneList (s.duc.retuneList.filter (fun c => (s.cell c).beacon != beacon)) s) :=
    setRetuneList_kept fun ⟨hnodup, hlist⟩ => ⟨hnodup.filter _, fun d hd => hlist d (List.mem_filter.mp hd).1⟩
  refine hkept.trans (setRetuneList_kept fun ⟨hnodup, hlist⟩ => ⟨?_, fun c hc => ?_⟩)
  · refine hnodup.append (allCells_nodup.filter _) fun c hc hstale => ?_
    have := (List.mem_filter.mp hstale).2
    simp_all
  · rcases List.mem_append.mp hc with hc | hc
    · exact hlist c hc
    · have hstate := (List.mem_filter.mp hc).2
      cases hs : (s.cell c).state <;> simp_all [State.cell, CellState.dozing, Listable]

theorem retuneOrder_kept (beacon : Option Beacon) (s : State) : Kept s (retuneOrder beacon s) :=
  ((resumeAll_kept beacon s).trans (listStale_kept ..)).trans (dispatch_kept _)

theorem takeRetuned_kept {c : CellId} {s : State} (hs : (s.cell c).state = .retuning) (beacon : Beacon) :
    Kept s (takeRetuned c beacon s) := by
  unfold takeRetuned
  refine .ite (fun _ => ?_) fun _ => (countBad_unmoved ..).kept
  extract_lets t
  have hserving : Kept s (modCell c
      (fun x => { x with state := .serving, beacon := some beacon, target := none, retuneTimer := none }) s) :=
    modCell_serving_kept rfl rfl fun h => deepTimer_eq_none h (by simp [hs])
  have ht : Kept s t := (hserving.trans (loadIdle_unmoved ..).kept).trans (recompute_kept _)
  have hcell : (t.cell c).state = .serving := by
    simp [t, enterServing, (loadIdle_unmoved ..).state, modCell]
  have hlist : t.duc.retuneList = s.duc.retuneList := by
    simp [t, enterServing, (loadIdle_unmoved ..).retuneList, modCell]
  clear_value t
  have hlisted : RetuneLaw s → RetuneLaw (setRetuneList (t.duc.retuneList ++ [c]) t) := fun h => by
    have hc : c ∉ s.duc.retuneList := not_listed h (by simp [hs, Listable])
    obtain ⟨hnodup, hall⟩ := ht.retunes h
    refine ⟨List.nodup_append.mpr ⟨hnodup, List.nodup_singleton c, ?_⟩, fun d hd => ?_⟩
    · rintro d hd e he rfl
      rw [List.mem_singleton.mp he, hlist] at hd
      exact hc hd
    · rcases List.mem_append.mp hd with hd | hd
      · exact hall d hd
      · rw [List.mem_singleton.mp hd]
        exact .inl hcell
  have hplaced : Kept s (if t.zone.beacon = some beacon then t else setRetuneList (t.duc.retuneList ++ [c]) t) :=
    .ite (fun _ => ht) fun _ => ⟨ht.grants, hlisted⟩
  exact hplaced.trans (dispatch_kept _)

theorem silenceCell_kept {c : CellId} {s : State} (hc : c ∉ s.duc.retuneList) : Kept s (silenceCell c s) := by
  refine (sendDeck_unmoved c .silence s).kept.trans ?_
  have hcell : (sendDeck c .silence s).cell c = s.cell c := sendDeck_cell ..
  unfold silenceCell
  rw [← hcell]
  refine leave_kept rfl (fun hd => nomatch hd) fun hl => ?_
  rw [sendDeck_retuneList] at hl
  exact absurd hl hc

theorem leaveServing_retuneList (c : CellId) (s : State) : (leaveServing c s).duc.retuneList = s.duc.retuneList := by
  simp [leaveServing, clearGrant, modCell]

theorem silenceCell_retuneList (c : CellId) (s : State) : (silenceCell c s).duc.retuneList = s.duc.retuneList := by
  unfold silenceCell
  dsimp only
  split
  · rw [leaveServing_retuneList]
    exact sendDeck_retuneList ..
  · exact sendDeck_retuneList ..

/-- A loop over the cells, none on the retune list, whose every turn keeps the laws and the empty list. -/
theorem forEach_kept_of_nil {items : List CellId} {f : CellId → State → State} {s : State}
    (hnil : s.duc.retuneList = [])
    (hf : ∀ c t, t.duc.retuneList = [] → Kept t (f c t) ∧ (f c t).duc.retuneList = []) : Kept s (forEach items f s) := by
  have hloop := forEach_keeps (items := items) (f := f) (property := fun t => Kept s t ∧ t.duc.retuneList = [])
    (fun c _ t ⟨ht, hl⟩ => ⟨ht.trans (hf c t hl).1, (hf c t hl).2⟩) ⟨.refl s, hnil⟩
  exact hloop.1

theorem emptyRetuneList_kept (s : State) : Kept s (setRetuneList [] s) :=
  setRetuneList_kept fun _ => ⟨List.nodup_nil, fun _ hc => nomatch hc⟩

theorem silenceOrder_kept (s : State) : Kept s (silenceOrder s) :=
  (emptyRetuneList_kept s).trans <| forEach_kept_of_nil rfl fun c t hl =>
    ⟨silenceCell_kept (by simp [hl]), (silenceCell_retuneList c t).trans hl⟩

theorem takeSilenced_kept {c : CellId} {s : State} (hs : (s.cell c).state = .silencing) : Kept s (takeSilenced c s) := by
  have hdeep (h : GrantLaw s) : (s.cell c).deepTimer = none := deepTimer_eq_none h (by simp [hs])
  unfold takeSilenced
  extract_lets t
  have hcounts := (cellCountsComplete_charged c
    (modCell c (fun x => { x with state := .silent, silenceTimer := none, beacon := none }) s)).unmoved
  have hsilent : Kept s (modCell c (fun x => { x with state := .silent, silenceTimer := none, beacon := none }) s) :=
    modCell_kept (by simp [hs]) rfl (fun h hd => by simp [hdeep h] at hd)
      fun h hc => absurd hc (not_listed h (by simp [hs, Listable]))
  have ht : Kept s t := hsilent.trans hcounts.kept
  have htimer : (t.cell c).deepTimer = (s.cell c).deepTimer := (hcounts.deepTimer c).trans (by simp [modCell])
  clear_value t
  exact .ite (fun _ => ⟨fun h => resumeCell_grantLaw (ht.grants h) (htimer.trans (hdeep h)),
    fun h => resumeCell_retuneLaw (ht.retunes h)⟩) fun _ => ht

/-! ### Loss, joining and the restart (R63 to R76) -/

theorem dropCell_kept (state : CellState) (c : CellId) (s : State) : Kept s (dropCell state c s) := by
  have hlist : c ∉ (leaveRetuneList c s).duc.retuneList := not_mem_leaveRetuneList c s
  unfold dropCell
  rw [leaveRetuneList_modCell]
  extract_lets before s1 s2 s3
  have h1 (hb : before ≠ .serving) : Kept s s1 := (leaveRetuneList_kept c s).trans
    (modCell_kept hb rfl (fun _ hd => nomatch hd) fun _ hc => absurd hc hlist)
  have h2 (hb : before ≠ .serving) : Kept s s2 := .ite (fun _ => (h1 hb).trans (dispatch_kept _)) fun _ => h1 hb
  have h3 : Kept s s3 := .ite (fun hb => ?_) h2
  · exact h3.trans ((strikeCell_settled ..).unmoved.trans (orphanCell_charged ..).unmoved).kept
  · have hs2 : s2 = s1 := if_neg (by simp [hb])
    rw [hs2]
    exact (leaveRetuneList_kept c s).trans (leaveServing_kept (fun hd => nomatch hd) fun hc => absurd hc hlist)

theorem loseCell_kept (c : CellId) (s : State) : Kept s (loseCell c s) :=
  (dropCell_kept ..).trans (setCond_unmoved ..).kept

/-- An acceptance, for a cell that holds no grant; the laws counted from an earlier state (R63). -/
theorem acceptJoin_kept {c : CellId} {r s : State} (hr : Kept r s) (hgrant : GrantLaw r → (s.cell c).grant = 0)
    (serial : Nat) : Kept r (acceptJoin c serial s) := by
  have hleft := hr.trans (leaveRetuneList_kept c s)
  unfold acceptJoin
  rw [leaveRetuneList_modCell]
  extract_lets before s1 s2 t s3
  have h1 : Kept r s1 :=
    { grants := fun h => grantLaw_modCell (hleft.grants h) le_rfl (fun _ => hgrant h) fun hd => nomatch hd
      retunes := fun h => retuneLaw_modCell (hleft.retunes h) fun hc => absurd hc (not_mem_leaveRetuneList c s) }
  have hstruck : Unmoved s1 s2 := .ite (.refl s1) (strikeCell_settled ..).unmoved
  have h2 : Kept r s2 := h1.trans hstruck.kept
  have hdeep : (s2.cell c).deepTimer = none := (hstruck.deepTimer c).trans (by simp [s1, modCell, Cell.accepted])
  have hgrant2 (h : GrantLaw r) : (s2.cell c).grant = 0 :=
    (hstruck.grant c).trans (by simpa [s1, modCell, Cell.accepted] using hgrant h)
  have hlist : c ∉ s2.duc.retuneList := hstruck.retuneList ▸ not_mem_leaveRetuneList c s
  clear_value s2
  have ht : Kept r t := ((h2.trans (modCell_serving_kept rfl rfl fun _ => hdeep)).trans (emitDeck_unmoved ..).kept).trans
    (loadIdle_unmoved ..).kept
  have hsilent : Kept r (modCell c (fun x => { x with state := .silent, beacon := none, target := none }) s2) :=
    { grants := fun h => grantLaw_modCell (h2.grants h) le_rfl (fun _ => hgrant2 h) fun hd => by simp [hdeep] at hd
      retunes := fun h => retuneLaw_modCell (h2.retunes h) fun hc => absurd hc hlist }
  have h3 : Kept r s3 := .ite (fun _ => .ite (fun _ => ht) fun _ => ht.trans (recompute_kept _)) fun _ =>
    hsilent.trans (emitDeck_unmoved ..).kept
  exact h3.trans (armHeartbeat_unmoved ..).kept

theorem acceptAgain_unmoved (c : CellId) (s : State) : Unmoved s (acceptAgain c s) := by
  have hagain := ((emitDeck_unmoved c (.acceptServe s.zone.beacon s.newestEpoch.number) s).trans
    (modCell_unmoved (c := c) (f := fun x => { x with phase := .a, good := false }) fun _ => ⟨rfl, rfl, rfl⟩)).trans
      (armHeartbeat_unmoved c _)
  exact .ite (hagain.trans (emitDeck_unmoved ..)) hagain

theorem leaveServing_state (c d : CellId) (s : State) : ((leaveServing c s).cell d).state = (s.cell d).state := by
  simp only [leaveServing, recompute_cell, clearGrant, modCell, setCell_cell]
  split
  next hd => rw [hd]
  next => rfl

/-- A dispatch leaves each cell in its state or takes it to RETUNING. -/
theorem dispatchCell_state (c d : CellId) (s : State) :
    ((dispatchCell c s).cell d).state = (s.cell d).state ∨ ((dispatchCell c s).cell d).state = .retuning := by
  have hstate (x : Cell) (u : State) (hu : (u.cell d) = s.cell d) (hx : x.state = .retuning) :
      ((setCell c x u).cell d).state = (s.cell d).state ∨ ((setCell c x u).cell d).state = .retuning := by
    rw [setCell_cell]
    split
    · exact .inr hx
    · exact .inl (by rw [hu])
  unfold dispatchCell
  dsimp only
  split
  · rw [leaveServing_state]
    exact hstate _ _ (by simp only [sendDeck_cell, leaveRetuneList_cell]) rfl
  · exact hstate _ _ (by simp only [sendDeck_cell, leaveRetuneList_cell]) rfl

theorem dispatchWhile_state (limit n : Nat) (d : CellId) (s : State) :
    ((dispatchWhile limit n s).cell d).state = (s.cell d).state
      ∨ ((dispatchWhile limit n s).cell d).state = .retuning := by
  induction n generalizing s with
  | zero => exact .inl rfl
  | succ n ih =>
    unfold dispatchWhile
    split
    next => exact .inl rfl
    next c _ _ =>
      split
      · rcases ih (dispatchCell c s) with h | h
        · rw [h]
          exact dispatchCell_state c d s
        · exact .inr h
      · exact .inl rfl

theorem clearGrant_kept {c : CellId} {s : State} : Kept s (clearGrant c s) where
  grants h := grantLaw_modCell h (Nat.zero_le _) (fun _ => rfl) ((GrantBase.of_law h).deep c)
  retunes h := retuneLaw_modCell h fun hc => by
    obtain ⟨-, hlist⟩ := h
    exact hlist c hc

/-- What a unit's restart makes of a SERVING cell's grant and contexts, before a RETUNING one's window place is freed (R65). -/
def restartPrepared (c : CellId) (s : State) : State :=
  orphanCell c (if (s.cell c).state = .serving then clearGrant c s else s)

theorem unitRestarted_eq (c : CellId) (s : State) :
    unitRestarted c s =
      if (s.cell c).state = .retuning then
        dispatchUpTo ((restartPrepared c s).settings.retuneWindow + 1) (restartPrepared c s)
      else restartPrepared c s := rfl

theorem restartPrepared_kept (c : CellId) (s : State) : Kept s (restartPrepared c s) :=
  .trans (.ite (fun _ => clearGrant_kept) fun _ => .refl s) (orphanCell_charged ..).unmoved.kept

theorem restartPrepared_state (c d : CellId) (s : State) : ((restartPrepared c s).cell d).state = (s.cell d).state := by
  refine ((orphanCell_charged ..).unmoved.state d).trans ?_
  split
  · simp only [clearGrant, modCell, setCell_cell]
    split
    next hd => rw [hd]
    next => rfl
  · rfl

theorem unitRestarted_kept (c : CellId) (s : State) : Kept s (unitRestarted c s) := by
  rw [unitRestarted_eq]
  exact .ite (fun _ => (restartPrepared_kept c s).trans (dispatchUpTo_kept ..)) fun _ => restartPrepared_kept c s

/-- A unit that has restarted holds no grant (R65). -/
theorem unitRestarted_grant {c : CellId} {s : State} (h : GrantLaw s) : ((unitRestarted c s).cell c).grant = 0 := by
  obtain ⟨-, -, hzero, -⟩ := (unitRestarted_kept c s).grants h
  by_cases hs : (s.cell c).state = .serving
  · rw [unitRestarted_eq, if_neg (by simp [hs]), restartPrepared, if_pos hs, (orphanCell_charged ..).unmoved.grant]
    simp [clearGrant, modCell]
  · refine hzero c ?_
    rw [unitRestarted_eq]
    split
    · rcases dispatchWhile_state _ _ c (restartPrepared c s) with hd | hd
      · rwa [dispatchUpTo, hd, restartPrepared_state]
      · simp [dispatchUpTo, hd]
    · rwa [restartPrepared_state]

theorem restartJoin_kept (c : CellId) (serial : Nat) (s : State) : Kept s (restartJoin c serial s) := by
  have hjoined := acceptJoin_kept (unitRestarted_kept c s) unitRestarted_grant serial
  exact .ite (fun _ => hjoined.trans (recompute_kept _)) fun _ => hjoined

theorem takeJoin_kept (c : CellId) (serial : Nat) (s : State) : Kept s (takeJoin c serial s) := by
  have haccept (hs : (s.cell c).state ≠ .serving) : Kept s (acceptJoin c serial s) :=
    acceptJoin_kept (.refl s) (fun ⟨_, _, hzero, _⟩ => hzero c hs) serial
  have hbad : Kept s (if serial = (s.cell c).serial then countBad c s else restartJoin c serial s) :=
    .ite (fun _ => (countBad_unmoved c s).kept) fun _ => restartJoin_kept ..
  unfold takeJoin
  split
  next hs => exact haccept (by simp [hs])
  next hs => exact haccept (by simp [hs])
  next hs => exact haccept (by simp [hs])
  next => exact .ite (fun _ => (acceptAgain_unmoved c s).kept) fun _ => restartJoin_kept ..
  next => exact hbad
  next => exact hbad
  next => exact hbad
  next => exact hbad
  next => exact (emitDeck_unmoved ..).kept

/-- A change of the held JOINs. -/
theorem setHeldJoins_kept (l : List (CellId × Nat)) (s : State) :
    Kept s { s with duc := { s.duc with heldJoins := l } } := ⟨id, id⟩

theorem takeHeldJoins_kept (s : State) : Kept s (takeHeldJoins s) :=
  .ite (fun _ => .refl s) fun _ =>
    (setHeldJoins_kept [] s).trans (forEach_kept (fun (j : CellId × Nat) t => takeJoin_kept j.1 j.2 t) _)

theorem supervise_kept (c : CellId) (s : State) : Kept s (supervise c s) :=
  .ite (fun _ => loseCell_kept c s) fun _ =>
    (modCell_unmoved (c := c) (f := fun x => { x with missed := _, good := false }) fun _ => ⟨rfl, rfl, rfl⟩).kept.trans
      (armHeartbeat_unmoved ..).kept

theorem changePower_unmoved (c : CellId) (p : Power) (s : State) : Unmoved s (changePower c p s) :=
  modCell_unmoved fun _ => ⟨rfl, rfl, rfl⟩

theorem takeHeartbeat_kept (c : CellId) (phase : Phase) (power : Power) (demand : Nat) (s : State) :
    Kept s (takeHeartbeat c phase power demand s) := by
  have hheard : Unmoved s
      (modCell c (fun y => { y with phase := y.phase.flip, good := true, demand := min 4095 demand }) s) :=
    modCell_unmoved fun _ => ⟨rfl, rfl, rfl⟩
  have hgood := hheard.trans (changePower_unmoved c power _)
  have hflag (t : State) : Unmoved t { t with cap := { t.cap with demandChanged := true } } :=
    ⟨rfl, rfl, rfl, rfl, fun _ => rfl, fun _ => rfl, fun _ => rfl⟩
  exact (Unmoved.ite (.ite (hgood.trans (hflag _)) hgood) (countBad_unmoved c s)).kept

theorem restartCell_kept {c : CellId} {s : State} (hnil : s.duc.retuneList = []) : Kept s (restartCell c s) :=
  .ite (fun _ => .refl s) fun _ => (emitDeck_unmoved c .rejoin s).kept.trans
    (leave_kept rfl (fun hd => nomatch hd) fun hc => by simp [hnil] at hc)

theorem restartCell_retuneList (c : CellId) (s : State) : (restartCell c s).duc.retuneList = s.duc.retuneList := by
  unfold restartCell
  dsimp only
  split
  · rfl
  · split
    · rw [leaveServing_retuneList]
      rfl
    · rfl

theorem ducRestartEffect_kept (s : State) : Kept s (ducRestartEffect s) :=
  (emptyRetuneList_kept s).trans <| forEach_kept_of_nil rfl fun c t hl =>
    ⟨restartCell_kept hl, (restartCell_retuneList c t).trans hl⟩

theorem cellDisable_kept (cell : Nat) (s : State) : Kept s (cellDisable cell s).state := by
  unfold cellDisable
  split
  · exact .refl s
  · split
    · exact .refl s
    · exact (emitDeck_unmoved ..).kept.trans (dropCell_kept ..)

theorem cellEnable_kept (cell : Nat) (s : State) : Kept s (cellEnable cell s).state := by
  unfold cellEnable
  split
  next => exact .refl s
  next c _ =>
    split
    next hs =>
      have habsent : Kept s (modCell c (fun x => { x with state := .absent }) s) :=
        modCell_kept (by simp [hs]) rfl (fun h hd => by simp [deepTimer_eq_none (c := c) h (by simp [hs])] at hd)
          fun h hc => absurd hc (not_listed h (by simp [hs, Listable]))
      exact habsent
    next => exact .refl s

/-! ### Activity (R79) -/

theorem takeEvent_kept (c : CellId) (cls : EventClass) (deepWake : Bool) (s : State) :
    Kept s (takeEvent c cls deepWake s) := by
  unfold takeEvent
  split
  next => exact (loadIdle_unmoved ..).kept
  next => exact wakeCell_kept ..
  next => exact .ite (fun _ => wakeCell_kept ..) fun _ => .refl s
  next hs =>
    exact modCell_kept (by simp [hs]) rfl (fun _ _ => hs) fun ⟨_, hlist⟩ hc => hlist c hc
  next => exact .refl s

theorem takeKind_kept (c : CellId) (kind : Nat) (s : State) : Kept s (takeKind c kind s) := by
  unfold takeKind
  split
  · exact .refl s
  · exact takeEvent_kept ..

theorem takeActivity_kept (c : CellId) (kinds : List Nat) (s : State) : Kept s (takeActivity c kinds s) := by
  have hkinds : Kept s (forEach kinds (takeKind c) s) := forEach_kept (takeKind_kept c) s
  have hbad : Kept s (countBad c s) := (countBad_unmoved c s).kept
  unfold takeActivity
  split
  · exact hbad
  · exact hbad
  · exact hbad
  · exact .refl s
  · exact .refl s
  · exact hkinds
  · exact hkinds
  · exact hkinds
  · exact hkinds

/-! ### The CAP and the settings (R45, R46, R54, R56) -/

/-- A capacity taken makes the pool what the reserve leaves, whatever it was. -/
theorem takeCapacity_grantLaw {n : Nat} {s : State} (hsum : s.grantSum ≤ s.cap.pool)
    (hzero : ∀ c, (s.cell c).state ≠ .serving → (s.cell c).grant = 0)
    (hdeep : ∀ c, (s.cell c).deepTimer.isSome = true → (s.cell c).state = .doze) : GrantLaw (takeCapacity n s) := by
  rw [takeCapacity_eq]
  split
  next h => exact ⟨h.symm, hsum, hzero, hdeep⟩
  next => exact GrantBase.recompute ⟨rfl, hdeep⟩

theorem takeCapacity_kept (n : Nat) (s : State) : Kept s (takeCapacity n s) where
  grants := fun ⟨_, hsum, hzero, hdeep⟩ => takeCapacity_grantLaw hsum hzero hdeep
  retunes h := by
    rw [takeCapacity_eq]
    split
    · exact h
    · exact (recompute_kept _).retunes h

theorem zeroGrants_cell (c : CellId) (s : State) : (zeroGrants s).cell c = { s.cell c with grant := 0 } := by
  show (s.duc.cells.map fun x : Cell => { x with grant := 0 })[c.val] = _
  rw [Vector.getElem_map]
  rfl

theorem capRestartEffect_kept (s : State) : Kept s (capRestartEffect s) := by
  have hcell (p : Cap) (c : CellId) : (State.cell { zeroGrants s with cap := p } c) = { s.cell c with grant := 0 } :=
    zeroGrants_cell c s
  refine ⟨fun h => ?_, fun ⟨hnodup, hlist⟩ => (recompute_kept _).retunes ⟨hnodup, fun c hc => ?_⟩⟩
  · obtain ⟨hpool, hdeep⟩ := GrantBase.of_law h
    refine GrantBase.recompute ⟨hpool, fun c => ?_⟩
    rw [hcell]
    exact hdeep c
  · rw [hcell]
    exact hlist c hc

end Sys2Proof.Proofs
end

section
/-! SUPPORT. GrantLaw and RetuneLaw at every command (R45, R49, R83, R85), and the settling of O4. -/

namespace Sys2Proof.Proofs

open Sys2Proof.Machine

/-! ### Requests, restarts and resets -/

/-- A command's end keeps the laws where its effect does. -/
theorem done_kept {s x t : State} (h : Kept s x) (ht : done x = .next t) : Kept s t := by
  obtain rfl := Host.Outcome.next.inj ht
  exact h.trans (refreshLamp_unmoved x).kept

theorem takeRequest_kept {act : State → Answer} (h : ∀ s, Kept s (act s).state) (e : InEntry) (s : State) :
    Kept s (takeRequest e act s) :=
  .ite (fun _ => (appendReply_unmoved ..).kept) fun _ =>
    .ite (fun _ => (h s).trans (appendReply_unmoved ..).kept) fun _ => (appendReply_unmoved ..).kept

/-- A request row keeps the laws where its owner's rule does. -/
theorem request_kept {act : State → Answer} (h : ∀ s, Kept s (act s).state) (tag code : Nat) (body : List Byte) (s : State) :
    Kept s (request tag code body act s) := by
  have harrive : Kept s (arrive (tag % 256) code body s) := (arrive_unmoved ..).kept
  unfold request
  dsimp only
  split
  · exact .ite
      (fun _ => .ite (fun _ => .refl s) fun _ => (takeRequest_kept h ..).trans (answerUnowned_unmoved _).kept)
      fun _ => harrive
  · exact .ite (fun _ => harrive) fun _ => harrive.trans (takeRequest_kept h ..)

/-- A request row whose rule leaves the grants alone. -/
theorem request_unmoved {act : State → Answer} (h : ∀ s, Unmoved s (act s).state) (tag code : Nat) (body : List Byte)
    (s : State) : Kept s (request tag code body act s) := request_kept (fun t => (h t).kept) tag code body s

theorem takeRestart_kept {b : Block} {effect : State → State} (h : ∀ s, Kept s (effect s)) (s : State) :
    Kept s (takeRestart b effect s) := by
  have htaken : Unmoved s (s.restartTaken b) := .of_parts rfl rfl rfl
  exact .ite (fun _ => (htaken.kept.trans (h _)).trans (answerUnowned_unmoved _).kept) fun _ => .refl s

/-- A state with no pool and no retune list, whose cells hold no grant and run no deep timer, meets both laws. -/
theorem laws_of_fresh {s : State} (hcarried : s.cap.carried = 0) (hpool : s.cap.pool = 0) (hlist : s.duc.retuneList = [])
    (hcell : ∀ c, (s.cell c).grant = 0 ∧ (s.cell c).deepTimer = none) : GrantLaw s ∧ RetuneLaw s := by
  refine ⟨⟨by omega, ?_, fun c _ => (hcell c).1, fun c hd => by simp [hcell c] at hd⟩, ?_, ?_⟩
  · simp [State.grantSum, hcell]
  · simp [hlist]
  · simp [hlist]

theorem fromStore_cell (copy : Snapshot) (waiting : List Instr) (c : CellId) :
    (State.fromStore copy waiting).cell c = Cell.start (copy.disabled.get c) := by
  show (copy.disabled.map Cell.start)[c.val] = _
  rw [Vector.getElem_map]
  rfl

theorem reset_cell (waiting : List Instr) (c : CellId) :
    State.cell { State.reset with pending := waiting } c = Cell.start false := by
  show (Vector.replicate 24 (Cell.start false))[c.val] = _
  simp

theorem hardwareReset_laws (s : State) : GrantLaw (hardwareReset s) ∧ RetuneLaw (hardwareReset s) := by
  unfold hardwareReset
  split
  · exact laws_of_fresh rfl rfl rfl fun c => by rw [reset_cell]; exact ⟨rfl, rfl⟩
  · exact laws_of_fresh rfl rfl rfl fun c => by rw [fromStore_cell]; exact ⟨rfl, rfl⟩

/-! ### Settings (R46, R84, R90, R175, R177) -/

/-- A setting other than the reserve leaves the reserve. -/
theorem put_reserve {x : Setting} (h : x ≠ .reserve) (t : Settings) (v : Nat) : (t.put v x).reserve = t.reserve := by
  cases x with
  | reserve => exact absurd rfl h
  | _ => rfl

theorem settingChanged_kept {x : Setting} (h : x ≠ .reserve) (s : State) : Kept s (settingChanged x s) := by
  unfold settingChanged
  split
  next => exact absurd rfl h
  next => exact .ite (fun _ => .refl s) fun _ => wakeAll_kept s
  next => exact dispatch_kept s
  next => exact (closeOverdue_unmoved s).kept
  next => exact .ite (fun _ => (setCond_unmoved ..).kept) fun _ => .refl s
  next => exact .refl s

theorem putSetting_kept (x : Setting) (v : Nat) (s : State) : Kept s (putSetting x v s) := by
  have hput (hr : (s.settings.put v x).reserve = s.settings.reserve) :
      Unmoved s { s with settings := s.settings.put v x } :=
    ⟨rfl, rfl, hr, rfl, fun _ => rfl, fun _ => rfl, fun _ => rfl⟩
  unfold putSetting
  by_cases hx : x = .reserve
  · subst hx
    refine .ite (fun hv => (hput hv.symm).kept) fun _ => ⟨fun ⟨_, hsum, hzero, hdeep⟩ => ?_, fun h => ?_⟩
    · exact takeCapacity_grantLaw hsum hzero hdeep
    · exact (takeCapacity_kept ..).retunes h
  · have hkept := (hput (put_reserve hx _ v)).kept
    exact .ite (fun _ => hkept) fun _ => hkept.trans (settingChanged_kept hx _)

theorem settingsSet_kept (setting value : Nat) (s : State) : Kept s (settingsSet setting value s).state := by
  unfold settingsSet
  split
  · exact .refl s
  · exact putSetting_kept ..

/-! ### Rows that name a cell or a link -/



theorem atExpiry_kept {t : Timer} {effect : State → State} (s : State)
    (h : ∀ d, t = some d → Kept (reachDeadline d s) (effect (reachDeadline d s))) : Kept s (atExpiry t effect s) := by
  rcases atExpiry_cases t effect s with ⟨-, he⟩ | ⟨d, hd, he⟩ <;> rw [he]
  · exact .refl s
  · exact (reachDeadline_unmoved d s).kept.trans (h d hd)

section

variable {s t : State}

theorem exec_join_kept {unit serial : Nat} (h : exec (.join unit serial) s = .next t) : Kept s t := by
  refine done_kept ?_ h
  split
  · exact .refl s
  · exact .ite (fun _ => setHeldJoins_kept ..) fun _ => takeJoin_kept ..

theorem exec_heartbeat_kept {unit phase power demand : Nat} (h : exec (.heartbeat unit phase power demand) s = .next t) :
    Kept s t := by
  refine done_kept ?_ h
  split
  · exact .refl s
  · refine .ite (fun _ => ?_) fun _ => (countBad_unmoved ..).kept
    split
    · exact (emitDeck_unmoved ..).kept
    · exact (emitDeck_unmoved ..).kept
    · exact .refl s
    · exact takeHeartbeat_kept ..

theorem exec_heartbeatTimerExpiry_kept {cell : Nat} (h : exec (.heartbeatTimerExpiry cell) s = .next t) : Kept s t := by
  refine done_kept ?_ h
  split
  · exact .refl s
  · exact atExpiry_kept s fun _ _ => supervise_kept ..

theorem exec_deckFrameInvalid_kept {payload : List Byte} (h : exec (.deckFrameInvalid payload) s = .next t) : Kept s t := by
  refine done_kept ?_ h
  split
  · exact .refl s
  · split
    · exact .refl s
    · exact .ite (fun _ => .refl s) fun _ => (countBad_unmoved ..).kept

theorem exec_activity_kept {unit : Nat} {kinds : List Nat} (h : exec (.activity unit kinds) s = .next t) : Kept s t := by
  refine done_kept ?_ h
  split
  · exact .refl s
  · exact .ite (fun _ => takeActivity_kept ..) fun _ => (countBad_unmoved ..).kept

theorem exec_idleTimerExpiry_kept {cell : Nat} (h : exec (.idleTimerExpiry cell) s = .next t) : Kept s t := by
  refine done_kept ?_ h
  split
  · exact .refl s
  · exact atExpiry_kept s fun _ _ => .ite (fun _ => dozeCell_kept ..) fun _ => (loadIdle_unmoved ..).kept

/-- A deep timer that expires runs in DOZE, so its cell holds no grant. -/
theorem deepen_kept {c : CellId} {s : State} {d : Nat} (hd : (s.cell c).deepTimer = some d) :
    Kept s (modCell c (fun x => { x with state := .deep, deepTimer := none }) (sendDeck c .dozeDeep s)) := by
  refine (sendDeck_unmoved c .dozeDeep s).kept.trans ⟨fun h => ?_, fun h => retuneLaw_modCell h fun _ => .inr (.inr rfl)⟩
  have hdoze := (GrantBase.of_law h).deep c (by simp [sendDeck_cell, hd])
  have hdeep : Kept (sendDeck c .dozeDeep s)
      (modCell c (fun x => { x with state := .deep, deepTimer := none }) (sendDeck c .dozeDeep s)) :=
    modCell_kept (by simp [hdoze]) rfl (fun _ hn => nomatch hn) fun _ _ => .inr (.inr rfl)
  exact hdeep.grants h

theorem exec_deepTimerExpiry_kept {cell : Nat} (h : exec (.deepTimerExpiry cell) s = .next t) : Kept s t := by
  refine done_kept ?_ h
  split
  · exact .refl s
  · exact atExpiry_kept s fun _ hd => deepen_kept hd

theorem exec_cellRetuneOrder_kept (h : exec .cellRetuneOrder s = .next t) : Kept s t := by
  have hmail (m : Mail) : Unmoved s { s with mail := m } := .of_parts rfl rfl rfl
  refine done_kept ?_ h
  split
  · exact .refl s
  · exact .ite (fun _ => (hmail _).kept.trans (retuneOrder_kept ..)) fun _ => .refl s

theorem exec_cellSilenceOrder_kept (h : exec .cellSilenceOrder s = .next t) : Kept s t := by
  have hmail (m : Mail) : Unmoved s { s with mail := m } := .of_parts rfl rfl rfl
  refine done_kept ?_ h
  split
  · exact .refl s
  · exact .ite (fun _ => .refl s) fun _ => (hmail _).kept.trans (silenceOrder_kept _)

theorem exec_retuned_kept {unit : Nat} {beacon : Beacon} (h : exec (.retuned unit beacon) s = .next t) : Kept s t := by
  refine done_kept ?_ h
  split
  · exact .refl s
  · refine .ite (fun _ => ?_) fun _ => (countBad_unmoved ..).kept
    split
    next => exact (countBad_unmoved ..).kept
    next => exact (countBad_unmoved ..).kept
    next => exact (countBad_unmoved ..).kept
    next hs => exact takeRetuned_kept hs beacon
    all_goals exact .refl s

theorem exec_retuneTimerExpiry_kept {cell : Nat} (h : exec (.retuneTimerExpiry cell) s = .next t) : Kept s t := by
  refine done_kept ?_ h
  split
  · exact .refl s
  · exact atExpiry_kept s fun _ _ => loseCell_kept ..

theorem exec_silenced_kept {unit : Nat} (h : exec (.silenced unit) s = .next t) : Kept s t := by
  refine done_kept ?_ h
  split
  · exact .refl s
  · split
    next => exact (countBad_unmoved ..).kept
    next => exact (countBad_unmoved ..).kept
    next => exact (countBad_unmoved ..).kept
    next hs => exact takeSilenced_kept hs
    all_goals exact .refl s

theorem exec_silenceTimerExpiry_kept {cell : Nat} (h : exec (.silenceTimerExpiry cell) s = .next t) : Kept s t := by
  refine done_kept ?_ h
  split
  · exact .refl s
  · exact atExpiry_kept s fun _ _ => (setCond_unmoved ..).kept.trans (loseCell_kept ..)

theorem exec_attach_kept {unit : Nat} {sid : Sid} (h : exec (.attach unit sid) s = .next t) : Kept s t := by
  refine done_kept ?_ h
  split
  · exact .refl s
  · exact .ite (fun _ => (takeEvent_kept ..).trans (attachAtSbt_unmoved ..).kept) fun _ => (countBad_unmoved ..).kept

theorem exec_capacityHandover_kept (h : exec .capacityHandover s = .next t) : Kept s t := by
  have hmail (m : Mail) : Unmoved s { s with mail := m } := .of_parts rfl rfl rfl
  refine done_kept ?_ h
  split
  · exact .refl s
  · exact (hmail _).kept.trans (takeCapacity_kept ..)

theorem armRegrant_unmoved (s : State) : Unmoved s (armRegrant s) :=
  ⟨rfl, rfl, rfl, rfl, fun _ => rfl, fun _ => rfl, fun _ => rfl⟩

theorem exec_regrantTimerExpiry_kept (h : exec .regrantTimerExpiry s = .next t) : Kept s t := by
  refine done_kept (atExpiry_kept s fun _ _ => ?_) h
  exact .ite (fun _ => (armRegrant_unmoved _).kept.trans (recompute_kept _)) fun _ => (armRegrant_unmoved _).kept

end

/-! ### Rows that leave the grants alone -/

section

variable {s t : State}

/-- A command's end leaves the grants alone where its effect does. -/
theorem done_unmoved {x : State} (h : Unmoved s x) (ht : done x = .next t) : Kept s t := done_kept h.kept ht

theorem exec_epochOpen_kept {reason : OpenReason} (h : exec (.epochOpen reason) s = .next t) : Kept s t := by
  have hmail (m : Mail) : Unmoved s { s with mail := m } := .of_parts rfl rfl rfl
  exact done_unmoved (.ite ((hmail _).trans (openEpoch_unmoved ..)) (.refl s)) h

theorem exec_usageEnd_kept {unit epoch : Nat} (h : exec (.usageEnd unit epoch) s = .next t) : Kept s t := by
  refine done_unmoved ?_ h
  split
  · exact .refl s
  · exact .ite (takeUsageEnd_unmoved ..) (countBad_unmoved ..)

theorem exec_cutTimerExpiry_kept {epoch : Nat} (h : exec (.cutTimerExpiry epoch) s = .next t) : Kept s t := by
  refine done_unmoved ?_ h
  split
  · exact .refl s
  · exact .ite
      (atExpiry_unmoved
        (fun u => ((setRing_unmoved ..).trans (setCond_unmoved ..)).trans (retirementCheck_unmoved _)) s) (.refl s)

theorem exec_usage_kept {unit epoch : Nat} {entries : List UsageEntry} (h : exec (.usage unit epoch entries) s = .next t) :
    Kept s t := by
  refine done_unmoved ?_ h
  split
  · exact .refl s
  · exact .ite (forEach_unmoved (takeEntry_unmoved _) s) (countBad_unmoved ..)

theorem exec_detach_kept {unit : Nat} {sid : Sid} {ctx : Nat} (h : exec (.detach unit sid ctx) s = .next t) : Kept s t := by
  refine done_unmoved ?_ h
  split
  · exact .refl s
  · exact .ite (detachAtSbt_unmoved ..) (countBad_unmoved ..)

theorem exec_serviceOffRelease_kept (h : exec .serviceOffRelease s = .next t) : Kept s t := by
  have hmail (m : Mail) : Unmoved s { s with mail := m } := .of_parts rfl rfl rfl
  refine done_unmoved ?_ h
  split
  · exact .refl s
  · exact (hmail _).trans (forEach_unmoved serviceOffContext_unmoved _)

theorem exec_regAns_kept {link correlation result cause : Nat} (h : exec (.regAns link correlation result cause) s = .next t) :
    Kept s t := by
  refine done_unmoved ?_ h
  split
  · exact .refl s
  · exact .ite (.refl s) (matchAnswer_unmoved ..)

theorem exec_regTimeoutDeadline_kept {correlation : Nat} (h : exec (.regTimeoutDeadline correlation) s = .next t) :
    Kept s t := by
  refine done_unmoved ?_ h
  split
  · exact .refl s
  · exact (reachDeadline_unmoved ..).trans (expireEntry_unmoved ..)

theorem exec_reevaluation_kept (h : exec .reevaluation s = .next t) : Kept s t := by
  have hmail (m : Mail) : Unmoved s { s with mail := m } := .of_parts rfl rfl rfl
  refine done_unmoved ?_ h
  split
  · exact .refl s
  · exact (hmail _).trans (forEach_unmoved reevaluateContext_unmoved _)

theorem exec_linkZoneCheck_kept (h : exec .linkZoneCheck s = .next t) : Kept s t := by
  have hmail (m : Mail) : Unmoved s { s with mail := m } := .of_parts rfl rfl rfl
  refine done_unmoved ?_ h
  split
  · exact .refl s
  · exact (hmail _).trans (zoneCheck_unmoved ..)

theorem exec_status_kept {link carrier quality latency capacity : Nat}
    (h : exec (.status link carrier quality latency capacity) s = .next t) : Kept s t := by
  refine done_unmoved ?_ h
  split
  · exact .refl s
  · exact .ite (.refl s) (takeStatus_unmoved ..)

theorem exec_echo_kept {link sequence : Nat} (h : exec (.echo link sequence) s = .next t) : Kept s t := by
  refine done_unmoved ?_ h
  split
  · exact .refl s
  · exact .ite (((modLink_unmoved ..).trans (readyCheck_unmoved ..)).trans (selectIfMoved_unmoved ..)) (.refl s)

theorem exec_carried_kept {link : Nat} (h : exec (.carried link) s = .next t) : Kept s t := by
  refine done_unmoved ?_ h
  split
  · exact .refl s
  · exact .ite (completeEngagement_unmoved ..) (.refl s)

theorem exec_released_kept {link : Nat} (h : exec (.released link) s = .next t) : Kept s t := by
  refine done_unmoved ?_ h
  split
  · exact .refl s
  · exact .ite (leaveDraining_unmoved ..) (.refl s)

theorem exec_carryTimeout_kept {link : Nat} (h : exec (.carryTimeout link) s = .next t) : Kept s t := by
  refine done_unmoved ?_ h
  split
  · exact .refl s
  · exact atExpiry_unmoved (moveAndSelect_unmoved _ _) s

theorem exec_drainTimerExpiry_kept {link : Nat} (h : exec (.drainTimerExpiry link) s = .next t) : Kept s t := by
  refine done_unmoved ?_ h
  split
  · exact .refl s
  · exact atExpiry_unmoved (leaveDraining_unmoved _) s

theorem exec_holdOffExpiry_kept {link : Nat} (h : exec (.holdOffExpiry link) s = .next t) : Kept s t := by
  refine done_unmoved ?_ h
  split
  · exact .refl s
  · exact atExpiry_unmoved (moveAndSelect_unmoved _ _) s

theorem exec_probeTimerExpiry_kept (h : exec .probeTimerExpiry s = .next t) : Kept s t := by
  refine done_unmoved (atExpiry_unmoved (fun u => ?_) s) h
  exact ((setLkm_unmoved _ u).trans (forEach_unmoved probeStep_unmoved (armProbe u))).trans (selectIfMoved_unmoved ..)

theorem exec_dwellTimerExpiry_kept (h : exec .dwellTimerExpiry s = .next t) : Kept s t :=
  done_unmoved (atExpiry_unmoved (fun u => (setLkm_unmoved _ u).trans (select_unmoved _)) s) h

theorem exec_gapTimeout_kept (h : exec .gapTimeout s = .next t) : Kept s t := by
  refine done_unmoved (.trans ?_ (portError_unmoved ..)) h
  split
  · exact .refl s
  · exact reachDeadline_unmoved ..

theorem exec_controlFrameSent_kept (h : exec .controlFrameSent s = .next t) : Kept s t := by
  have hbytes (bytes : List Byte) : Unmoved s (emitBytes bytes s) := .of_parts rfl rfl rfl
  refine done_unmoved ?_ h
  split
  · exact .refl s
  · exact (hbytes _).trans (headLeaves_unmoved _)

theorem exec_notice_kept (h : exec .notice s = .next t) : Kept s t :=
  done_unmoved (.ite (.ite (setCtp_unmoved _ s) ((setCtp_unmoved _ s).trans (setCtp_unmoved _ _))) (.refl s)) h

theorem exec_storeWriteCompletion_kept {success : Bool} (h : exec (.storeWriteCompletion success) s = .next t) :
    Kept s t := by
  have hwritten (w : Snapshot) : Unmoved s (completeWrite success w s) := .of_parts rfl rfl rfl
  refine done_unmoved ?_ h
  split
  · exact .refl s
  · exact hwritten _

end

/-! ### O4 -/

/-- Every command keeps GrantLaw and RetuneLaw. -/
theorem exec_kept {i : Instr} {s t : State} (h : exec i s = .next t) : Kept s t := by
  cases i with
  | hardwareReset =>
    obtain ⟨hgrants, hretunes⟩ := hardwareReset_laws s
    exact done_kept ⟨fun _ => hgrants, fun _ => hretunes⟩ h
  | controlFrame bytes => exact done_unmoved (clockBytes_unmoved bytes s) h
  | gapTimeout => exact exec_gapTimeout_kept h
  | controlFrameSent => exact exec_controlFrameSent_kept h
  | notice => exact exec_notice_kept h
  | fix tag lat lon quality fixTime => exact done_kept (request_unmoved (fixRule_unmoved lat lon quality fixTime) _ _ _ s) h
  | zoneForce tag zone => exact done_kept (request_unmoved (zoneForce_unmoved zone) _ _ _ s) h
  | zoneRelease tag => exact done_kept (request_unmoved zoneRelease_unmoved _ _ _ s) h
  | zoneQuery tag zone => exact done_kept (request_unmoved (zoneQuery_unmoved zone) _ _ _ s) h
  | staleTimerExpiry =>
    exact done_unmoved (atExpiry_unmoved (fun u => (setPzu_unmoved _ u).trans (setCond_unmoved ..)) s) h
  | linkEnable tag link kind => exact done_kept (request_unmoved (linkEnable_unmoved link kind) _ _ _ s) h
  | linkDisable tag link => exact done_kept (request_unmoved (linkDisable_unmoved link) _ _ _ s) h
  | linkSet tag link ceiling bonus => exact done_kept (request_unmoved (linkSet_unmoved link ceiling bonus) _ _ _ s) h
  | linkQuery tag link => exact done_kept (request_unmoved (linkQuery_unmoved link) _ _ _ s) h
  | status link carrier quality latency capacity => exact exec_status_kept h
  | echo link sequence => exact exec_echo_kept h
  | carried link => exact exec_carried_kept h
  | released link => exact exec_released_kept h
  | terminalFrameInvalid payload => exact done_unmoved (.refl s) h
  | probeTimerExpiry => exact exec_probeTimerExpiry_kept h
  | carryTimeout link => exact exec_carryTimeout_kept h
  | drainTimerExpiry link => exact exec_drainTimerExpiry_kept h
  | holdOffExpiry link => exact exec_holdOffExpiry_kept h
  | dwellTimerExpiry => exact exec_dwellTimerExpiry_kept h
  | linkZoneCheck => exact exec_linkZoneCheck_kept h
  | capacityHandover => exact exec_capacityHandover_kept h
  | regrantTimerExpiry => exact exec_regrantTimerExpiry_kept h
  | join unit serial => exact exec_join_kept h
  | heartbeat unit phase power demand => exact exec_heartbeat_kept h
  | heartbeatTimerExpiry cell => exact exec_heartbeatTimerExpiry_kept h
  | deckFrameInvalid payload => exact exec_deckFrameInvalid_kept h
  | cellDisable tag cell => exact done_kept (request_kept (cellDisable_kept cell) _ _ _ s) h
  | cellEnable tag cell => exact done_kept (request_kept (cellEnable_kept cell) _ _ _ s) h
  | cellQuery tag cell clear => exact done_kept (request_unmoved (cellQuery_unmoved cell clear) _ _ _ s) h
  | activity unit kinds => exact exec_activity_kept h
  | idleTimerExpiry cell => exact exec_idleTimerExpiry_kept h
  | deepTimerExpiry cell => exact exec_deepTimerExpiry_kept h
  | cellRetuneOrder => exact exec_cellRetuneOrder_kept h
  | retuned unit beacon => exact exec_retuned_kept h
  | retuneTimerExpiry cell => exact exec_retuneTimerExpiry_kept h
  | cellSilenceOrder => exact exec_cellSilenceOrder_kept h
  | silenced unit => exact exec_silenced_kept h
  | silenceTimerExpiry cell => exact exec_silenceTimerExpiry_kept h
  | lampSet tag pattern => exact done_kept (request_unmoved (lampSet_unmoved pattern) _ _ _ s) h
  | attach unit sid => exact exec_attach_kept h
  | detach unit sid ctx => exact exec_detach_kept h
  | subRelease tag ctx => exact done_kept (request_unmoved (subRelease_unmoved ctx) _ _ _ s) h
  | graceDeadline ctx => exact done_unmoved (atExpiry_unmoved (graceOver_unmoved ctx) s) h
  | serviceOffRelease => exact exec_serviceOffRelease_kept h
  | subQuery tag ctx => exact done_kept (request_unmoved (subQuery_unmoved ctx) _ _ _ s) h
  | subFind tag sid => exact done_kept (request_unmoved (subFind_unmoved sid) _ _ _ s) h
  | regAns link correlation result cause => exact exec_regAns_kept h
  | regTimeoutDeadline correlation => exact exec_regTimeoutDeadline_kept h
  | reevaluation => exact exec_reevaluation_kept h
  | subReregister tag ctx => exact done_kept (request_unmoved (subReregister_unmoved ctx) _ _ _ s) h
  | epochOpen reason => exact exec_epochOpen_kept h
  | usageEnd unit epoch => exact exec_usageEnd_kept h
  | cutTimerExpiry epoch => exact exec_cutTimerExpiry_kept h
  | usage unit epoch entries => exact exec_usage_kept h
  | quotaGrant tag ctx mode amount => exact done_kept (request_unmoved (quotaGrant_unmoved ctx mode amount) _ _ _ s) h
  | quotaAttentionRead tag => exact done_kept (request_unmoved (fun _ => .of_parts rfl rfl rfl) _ _ _ s) h
  | ticketRead tag max => exact done_kept (request_unmoved (ticketRead_unmoved max) _ _ _ s) h
  | ticketRelease tag sequence => exact done_kept (request_unmoved (ticketRelease_unmoved sequence) _ _ _ s) h
  | intervalDeadline ctx => exact done_unmoved (atExpiry_unmoved (closeAccumulator_unmoved ctx .interval) s) h
  | settingsSet tag setting value => exact done_kept (request_kept (settingsSet_kept setting value) _ _ _ s) h
  | settingsGet tag setting => exact done_kept (request_unmoved (settingsGet_unmoved setting) _ _ _ s) h
  | timeSet tag seconds => exact done_kept (request_unmoved (fun _ => .of_parts rfl rfl rfl) _ _ _ s) h
  | condClear tag conds => exact done_kept (request_unmoved (fun _ => .of_parts rfl rfl rfl) _ _ _ s) h
  | condMask tag conds => exact done_kept (request_unmoved (fun _ => .of_parts rfl rfl rfl) _ _ _ s) h
  | statusRead tag block => exact done_kept (request_unmoved (statusRead_unmoved block) _ _ _ s) h
  | identify tag => exact done_kept (request_unmoved (fun u => .refl u) _ _ _ s) h
  | unlock tag code => exact done_kept (request_unmoved (unlock_unmoved code) _ _ _ s) h
  | lock tag => exact done_kept (request_unmoved lockPort_unmoved _ _ _ s) h
  | lockoutTimerExpiry => exact done_unmoved (atExpiry_unmoved (fun u => setCtp_unmoved _ u) s) h
  | codeSet tag code => exact done_kept (request_unmoved (fun _ => .of_parts rfl rfl rfl) _ _ _ s) h
  | loadBegin tag kind total checksum => exact done_kept (request_unmoved (loadBegin_unmoved kind total checksum) _ _ _ s) h
  | loadData tag offset bytes => exact done_kept (request_unmoved (loadData_unmoved offset bytes) _ _ _ s) h
  | loadCommit tag => exact done_kept (request_unmoved loadCommit_unmoved _ _ _ s) h
  | storeSave tag => exact done_kept (request_unmoved storeSave_unmoved _ _ _ s) h
  | storeWriteCompletion success => exact exec_storeWriteCompletion_kept h
  | restart tag => exact done_kept (request_unmoved (fun _ => .of_parts rfl rfl rfl) _ _ _ s) h
  | epcRestart =>
    exact done_kept (takeRestart_kept (fun u => (epcRestartEffect_unmoved u).kept.trans (takeHeldJoins_kept _)) s) h
  | capRestart => exact done_kept (takeRestart_kept capRestartEffect_kept s) h
  | ducRestart => exact done_kept (takeRestart_kept ducRestartEffect_kept s) h
  | sbtRestart =>
    exact done_kept (takeRestart_kept (fun u => (sbtRestartEffect_unmoved u).kept.trans (takeHeldJoins_kept _)) s) h
  | rgeRestart => exact done_kept (takeRestart_kept (fun u => (rgeRestartEffect_unmoved u).kept) s) h
  | rteRestart => exact done_kept (takeRestart_kept Kept.refl s) h
  | tkqRestart => exact done_kept (takeRestart_kept Kept.refl s) h
  | lengthDiscard => exact done_unmoved (portError_unmoved .length s) h

/-- Settles O4: a tick moves nothing that the laws read, and every command keeps them. -/
theorem grantsStayWithinPool : Obligations.GrantsStayWithinPool := by
  intro s t h
  have hkept : Kept s t := by
    unfold step at h
    split at h
    next => exact Host.Outcome.next.inj h ▸ (tick_unmoved s).kept
    next rest _ =>
      have htaken : Unmoved s { s with pending := rest } := .of_parts rfl rfl rfl
      exact htaken.kept.trans (exec_kept h)
  exact ⟨hkept.grants, hkept.retunes⟩

end Sys2Proof.Proofs
end

section
/-! SUPPORT. Joining (R62 to R65): an acceptance as one change of the cell's record and one recomputation, and what it leaves. -/

namespace Sys2Proof.Proofs

open Sys2Proof.Machine

/-! ### What a recomputation reads (R47 to R50) -/

/-- A division reads the pool, the pointer, and the cells' states and demands. -/
theorem division_congr {s t : State} (hpool : t.cap.pool = s.cap.pool) (hpointer : t.cap.pointer = s.cap.pointer)
    (hstate : ∀ c, (t.cell c).state = (s.cell c).state) (hdemand : ∀ c, (t.cell c).demand = (s.cell c).demand) :
    t.division = s.division := by
  have hserving : t.serving = s.serving := by simp only [State.serving, hstate]
  have hsum : t.levelSum = s.levelSum := funext fun n => by simp only [State.levelSum, hserving, hdemand]
  have htop : t.topDemand = s.topDemand := by simp only [State.topDemand, hserving, hdemand]
  have htotal : t.totalDemand = s.totalDemand := by simp only [State.totalDemand, hserving, hdemand]
  have hrotation : t.rotation = s.rotation := funext fun n => by
    simp only [State.rotation, hserving, hdemand, hpointer]
  have hlevel : t.grantLevel = s.grantLevel := by
    unfold State.grantLevel
    rw [hsum, hpool, htop]
  unfold State.division
  rw [htotal, hpool, hlevel, hsum, hrotation]

theorem share_congr {s t : State} {c : CellId} (hstate : (t.cell c).state = (s.cell c).state)
    (hdemand : (t.cell c).demand = (s.cell c).demand) (d : Option (Nat × List CellId)) : t.share d c = s.share d c := by
  simp only [State.share, hstate, hdemand]

/-- A cell without demand is given nothing. -/
theorem share_of_demand_zero {s : State} {c : CellId} (h : (s.cell c).demand = 0) : s.share s.division c = 0 := by
  by_cases hs : (s.cell c).state = .serving
  · by_cases hfit : s.totalDemand ≤ s.cap.pool
    · rw [division_none hfit, share_none hs, h]
    · have hnot : c ∉ (s.rotation s.grantLevel).take (leftover s) := fun hc => by
        have := (mem_rotation.mp (List.mem_of_mem_take hc)).2
        omega
      rw [division_some (not_le.mp hfit), share_some hs, if_neg hnot, h]
      simp
  · exact share_not_serving hs _

theorem cells_ext {s t : State} (h : ∀ c, s.cell c = t.cell c) : s.duc.cells = t.duc.cells := by
  ext i hi : 1
  exact h ⟨i, hi⟩

/-- A change of a cell that a recomputation does not read may come before or after it. -/
theorem recompute_setCell {c : CellId} {x : Cell} {s : State} (hstate : x.state = (s.cell c).state)
    (hdemand : x.demand = (s.cell c).demand) (hgrant : x.grant = (s.cell c).grant) :
    recompute (setCell c x s) = setCell c { x with grant := s.share s.division c } (recompute s) := by
  have hread {β : Type} (g : Cell → β) (hg : g x = g (s.cell c)) (d : CellId) :
      g ((setCell c x s).cell d) = g (s.cell d) := by
    rw [setCell_cell]
    split
    next hd => rw [hd, hg]
    next => rfl
  have hs := hread Cell.state hstate
  have hd := hread Cell.demand hdemand
  have hg := hread Cell.grant hgrant
  have hdivision : (setCell c x s).division = s.division := division_congr rfl rfl hs hd
  have hshare (d : CellId) : (setCell c x s).share s.division d = s.share s.division d := share_congr (hs d) (hd d) _
  have hframes : regrantedCells (setCell c x s) = regrantedCells s := by
    simp only [regrantedCells, State.serving, hs, hg, hdivision, hshare]
  have hcells : (recompute (setCell c x s)).duc.cells
      = (setCell c { x with grant := s.share s.division c } (recompute s)).duc.cells := cells_ext fun d => by
    rw [recompute_cell, hdivision, hshare, setCell_cell, setCell_cell, recompute_cell]
    split
    next h => rw [h]
    next => rfl
  have hcap : (recompute (setCell c x s)).cap = (recompute s).cap := by simp [hdivision]
  have hdeck : (recompute (setCell c x s)).ports.deck = (recompute s).ports.deck := by
    simp only [recompute_deck, hframes, hdivision, hshare, setCell_ports]
  rw [recompute_frame, hcap, hcells, hdeck]
  conv_rhs => rw [recompute_frame]
  simp only [setCell]

/-! ### An acceptance (R63) -/

theorem zone_congr {s t : State} (h : t.pzu = s.pzu) : t.zone = s.zone := by
  simp only [State.zone, State.zoneRecord, h]

/-- The cell's record after an acceptance, but for its grant. -/
def joinedCell (serial : Nat) (s : State) (x : Cell) : Cell :=
  { Cell.accepted serial x with
    state := if s.zone.service = true then .serving else .silent
    beacon := if s.zone.service = true then s.zone.beacon else none
    target := none
    idleTimer := if s.zone.service = true then some (s.deadline s.settings.idleTime) else none
    heartbeatTimer := some (s.deadline s.settings.heartbeatPeriod) }

/-- A state in which the joining cell's record is reset and its places in the retune list and the pending sets are given up. -/
def joinStruck (c : CellId) (serial : Nat) (s : State) : State :=
  let s1 := modCell c (Cell.accepted serial) (leaveRetuneList c s)
  if (s.cell c).state = .absent then s1 else strikeCell c s1

/-- The frame that answers an accepted JOIN. -/
def joinFrame (s : State) : DeckFrame :=
  if s.zone.service = true then .acceptServe s.zone.beacon s.newestEpoch.number else .acceptSilent

/-- A state in which the unit is accepted, before the CAP takes the cell's entry. -/
def seated (c : CellId) (serial : Nat) (s : State) : State :=
  setCell c (joinedCell serial s (s.cell c)) (emitDeck c (joinFrame (joinStruck c serial s)) (joinStruck c serial s))

theorem joinStruck_settled (c : CellId) (serial : Nat) (s : State) :
    Settled (modCell c (Cell.accepted serial) (leaveRetuneList c s)) (joinStruck c serial s) := by
  unfold joinStruck
  dsimp only
  split
  · exact .refl _
  · exact strikeCell_settled ..

theorem Settled.cell {s t : State} (h : Settled s t) (c : CellId) : t.cell c = s.cell c := by
  simp only [State.cell, h.duc]

theorem joinStruck_cell_self (c : CellId) (serial : Nat) (s : State) :
    (joinStruck c serial s).cell c = Cell.accepted serial (s.cell c) := by
  rw [(joinStruck_settled ..).cell]
  simp [modCell]

theorem joinStruck_zone (c : CellId) (serial : Nat) (s : State) : (joinStruck c serial s).zone = s.zone :=
  zone_congr ((joinStruck_settled c serial s).pzu)

theorem armHeartbeat_recompute (c : CellId) (s : State) : armHeartbeat c (recompute s) = recompute (armHeartbeat c s) := by
  have h := recompute_setCell (c := c) (s := s)
    (x := { s.cell c with heartbeatTimer := some (s.deadline s.settings.heartbeatPeriod) }) rfl rfl rfl
  refine Eq.trans ?_ h.symm
  simp only [armHeartbeat, modCell, recompute_cell, recompute_settings, State.deadline, recompute_shipTime]

/-- A cell accepted in waters with service, before the CAP's entry. -/
def acceptedServing (c : CellId) (s : State) : State :=
  loadIdle c
    (emitDeck c (.acceptServe s.zone.beacon s.newestEpoch.number)
      (modCell c (fun x => { x with state := .serving, beacon := s.zone.beacon, target := none }) s))

/-- A cell accepted in waters without service. -/
def acceptedSilent (c : CellId) (s : State) : State :=
  emitDeck c .acceptSilent (modCell c (fun x => { x with state := .silent, beacon := none, target := none }) s)

/-- The two ways of an acceptance once the record is reset (R63). -/
theorem acceptJoin_branches (c : CellId) (serial : Nat) (s : State) :
    acceptJoin c serial s =
      armHeartbeat c
        (if (joinStruck c serial s).zone.service = true then
          if (s.cell c).state = .serving then acceptedServing c (joinStruck c serial s)
          else recompute (acceptedServing c (joinStruck c serial s))
        else acceptedSilent c (joinStruck c serial s)) := rfl

theorem emitDeck_setCell (c d : CellId) (f : DeckFrame) (x : Cell) (s : State) :
    emitDeck c f (setCell d x s) = setCell d x (emitDeck c f s) := rfl

theorem seated_of_service {s : State} (h : s.zone.service = true) (c : CellId) (serial : Nat) :
    armHeartbeat c (acceptedServing c (joinStruck c serial s)) = seated c serial s := by
  have hself := joinStruck_cell_self c serial s
  have hzone := joinStruck_zone c serial s
  have hship : (joinStruck c serial s).shipTime = s.shipTime := (joinStruck_settled c serial s).shipTime
  have hsettings : (joinStruck c serial s).settings = s.settings := (joinStruck_settled c serial s).settings
  simp only [armHeartbeat, acceptedServing, loadIdle, seated, modCell, emitDeck_setCell, setCell_cell_self,
    setCell_setCell, hself, hzone]
  simp only [joinedCell, joinFrame, hzone, h, if_true, State.deadline, State.idleLoad, setCell_shipTime, setCell_settings,
    emitDeck_shipTime, emitDeck_settings, hship, hsettings, Cell.accepted]

theorem seated_of_no_service {s : State} (h : ¬s.zone.service = true) (c : CellId) (serial : Nat) :
    armHeartbeat c (acceptedSilent c (joinStruck c serial s)) = seated c serial s := by
  have hself := joinStruck_cell_self c serial s
  have hzone := joinStruck_zone c serial s
  have hship : (joinStruck c serial s).shipTime = s.shipTime := (joinStruck_settled c serial s).shipTime
  have hsettings : (joinStruck c serial s).settings = s.settings := (joinStruck_settled c serial s).settings
  simp only [armHeartbeat, acceptedSilent, seated, modCell, emitDeck_setCell, setCell_cell_self,
    setCell_setCell, hself]
  simp only [joinedCell, joinFrame, hzone, if_neg h, State.deadline, setCell_shipTime, setCell_settings,
    emitDeck_shipTime, emitDeck_settings, hship, hsettings, Cell.accepted]

/-- An acceptance seats the cell, and recomputes where the cell newly enters SERVING (R51, R63). -/
theorem acceptJoin_eq (c : CellId) (serial : Nat) (s : State) :
    acceptJoin c serial s =
      if s.zone.service = true ∧ (s.cell c).state ≠ .serving then recompute (seated c serial s) else seated c serial s := by
  rw [acceptJoin_branches, joinStruck_zone]
  by_cases hz : s.zone.service = true
  · rw [if_pos hz]
    by_cases hs : (s.cell c).state = .serving
    · rw [if_pos hs, if_neg (by simp [hs]), seated_of_service hz]
    · rw [if_neg hs, if_pos ⟨hz, hs⟩, armHeartbeat_recompute, seated_of_service hz]
  · rw [if_neg hz, if_neg (by simp [hz]), seated_of_no_service hz]

/-- A restarted unit's acceptance, and the CAP's recomputation (R53, R65). -/
theorem restartJoin_eq (c : CellId) (serial : Nat) (s : State)
    (hu : ((unitRestarted c s).cell c).state = .serving ↔ (s.cell c).state = .serving)
    (hz : (unitRestarted c s).zone = s.zone) :
    restartJoin c serial s =
      if s.zone.service = true ∨ (s.cell c).state = .serving then recompute (seated c serial (unitRestarted c s))
      else seated c serial (unitRestarted c s) := by
  unfold restartJoin
  dsimp only
  rw [acceptJoin_eq, hz]
  by_cases hs : (s.cell c).state = .serving
  · rw [if_pos hs, if_neg (by simp [hu.mpr hs]), if_pos (.inr hs)]
  · rw [if_neg hs]
    exact if_congr (by simp [hs, hu]) rfl rfl

/-! ### What an acceptance leaves -/

theorem seated_cell_self (c : CellId) (serial : Nat) (s : State) :
    (seated c serial s).cell c = joinedCell serial s (s.cell c) := setCell_cell_self ..

theorem seated_cell_ne {c d : CellId} (h : d ≠ c) (serial : Nat) (s : State) : (seated c serial s).cell d = s.cell d := by
  rw [seated, setCell_cell_ne h, emitDeck_cell, (joinStruck_settled ..).cell, modCell, setCell_cell_ne h]
  rfl

theorem seated_grant (c d : CellId) (serial : Nat) (s : State) :
    ((seated c serial s).cell d).grant = (s.cell d).grant := by
  by_cases h : d = c
  · rw [h, seated_cell_self]
    rfl
  · rw [seated_cell_ne h]

theorem seated_cap (c : CellId) (serial : Nat) (s : State) : (seated c serial s).cap = s.cap :=
  (joinStruck_settled c serial s).cap

theorem seated_retuneList (c : CellId) (serial : Nat) (s : State) :
    (seated c serial s).duc.retuneList = s.duc.retuneList.filter (· != c) :=
  (joinStruck_settled c serial s).retuneList

/-- The frame that answers the JOIN is the last of those sent before the CAP's entry. -/
theorem seated_deck (c : CellId) (serial : Nat) (s : State) :
    (seated c serial s).ports.deck = (joinStruck c serial s).ports.deck ++ [(c, joinFrame (joinStruck c serial s))] := rfl

theorem seated_deck_prefix (c : CellId) (serial : Nat) (s : State) : s.ports.deck <+: (joinStruck c serial s).ports.deck :=
  (joinStruck_settled c serial s).deck

theorem seated_pending {c : CellId} {s : State} (h : (s.cell c).state ≠ .absent) (serial : Nat) :
    ∀ e ∈ (seated c serial s).epc.ring, c ∉ e.pendingSet := by
  have hstruck : joinStruck c serial s = strikeCell c (modCell c (Cell.accepted serial) (leaveRetuneList c s)) := if_neg h
  show ∀ e ∈ (joinStruck c serial s).epc.ring, c ∉ e.pendingSet
  rw [hstruck]
  exact strikeCell_pending c _

theorem joinFrame_seated (c : CellId) (serial : Nat) (s : State) :
    joinFrame (joinStruck c serial s) =
      if s.zone.service = true then .acceptServe s.zone.beacon (seated c serial s).newestEpoch.number else .acceptSilent := by
  unfold joinFrame
  rw [joinStruck_zone]
  rfl

/-! ### What a JOIN may change -/

/-- A state without what an acceptance may change. -/
def outsideJoin (s : State) : State :=
  { s with
    ctp := { s.ctp with conditions := 0#16, noticePending := false }
    epc := State.reset.epc
    cap := { s.cap with pointer := 0, demandChanged := false }
    duc := { s.duc with cells := State.reset.duc.cells, retuneList := [], lamp := State.reset.duc.lamp }
    sbt := { s.sbt with contexts := [] }
    rge := { s.rge with generations := [] }
    rte := { s.rte with generations := [], attention := [] }
    tkq := State.reset.tkq
    ports := { s.ports with deck := [] } }

theorem Settled.outsideJoin {s t : State} (h : Settled s t) : outsideJoin t = outsideJoin s := by
  have hjoin (x : State) : Proofs.outsideJoin x =
      { outside x with
        cap := { (outside x).cap with pointer := 0, demandChanged := false }
        duc := { x.duc with cells := State.reset.duc.cells, retuneList := [], lamp := State.reset.duc.lamp }
        rge := { x.rge with generations := [] }
        rte := { x.rte with generations := [], attention := [] } } := rfl
  rw [hjoin, hjoin, h.outside, h.rge, h.rte, h.duc]

theorem recompute_outsideJoin (s : State) : outsideJoin (recompute s) = outsideJoin s := by
  simp only [recompute_eq, storeGrants, outsideJoin]

theorem refreshLamp_outsideJoin (s : State) : outsideJoin (refreshLamp s) = outsideJoin s := by
  unfold refreshLamp
  split <;> rfl

theorem seated_outsideJoin (c : CellId) (serial : Nat) (s : State) : outsideJoin (seated c serial s) = outsideJoin s :=
  (joinStruck_settled c serial s).outsideJoin

/-- A state that differs from another in what an acceptance may change, written out. -/
theorem eq_of_outsideJoin {s t : State} (h : outsideJoin t = outsideJoin s) :
    t =
      { s with
        duc := { s.duc with cells := t.duc.cells, retuneList := t.duc.retuneList, lamp := t.duc.lamp }
        cap := { s.cap with pointer := t.cap.pointer, demandChanged := t.cap.demandChanged }
        ports := { s.ports with deck := t.ports.deck }
        epc := t.epc
        sbt := { s.sbt with contexts := t.sbt.contexts }
        tkq := t.tkq
        rte := { s.rte with generations := t.rte.generations, attention := t.rte.attention }
        rge := { s.rge with generations := t.rge.generations }
        ctp := { s.ctp with conditions := t.ctp.conditions, noticePending := t.ctp.noticePending } } := by
  have hfill (x : State) (hx : outsideJoin x = outsideJoin s) : x = { outsideJoin s with
      duc := { (outsideJoin s).duc with cells := x.duc.cells, retuneList := x.duc.retuneList, lamp := x.duc.lamp }
      cap := { (outsideJoin s).cap with pointer := x.cap.pointer, demandChanged := x.cap.demandChanged }
      ports := { (outsideJoin s).ports with deck := x.ports.deck }
      epc := x.epc
      sbt := { (outsideJoin s).sbt with contexts := x.sbt.contexts }
      tkq := x.tkq
      rte := { (outsideJoin s).rte with generations := x.rte.generations, attention := x.rte.attention }
      rge := { (outsideJoin s).rge with generations := x.rge.generations }
      ctp := { (outsideJoin s).ctp with conditions := x.ctp.conditions, noticePending := x.ctp.noticePending } } := by
    rw [← hx]
    rfl
  exact hfill t h

end Sys2Proof.Proofs
end

section
/-! SUPPORT. JOIN by cell state and serial (R62 to R65): the recomputation of an acceptance, the orphans of a restarted unit, and the
settling theorem. -/

namespace Sys2Proof.Proofs

open Sys2Proof.Machine

/-! ### An acceptance's recomputation, read off its result (R47, R49) -/

/-- The grants before a recomputation do not change what it divides. -/
theorem withGrantsOf_recompute_division {s w : State} (hcap : w.cap = s.cap) :
    (s.withGrantsOf (refreshLamp (recompute w))).division = w.division :=
  division_congr (by simp [hcap]) (by simp [hcap]) (by simp) (by simp)

theorem withGrantsOf_recompute_share (s w : State) (d : Option (Nat × List CellId)) (c : CellId) :
    (s.withGrantsOf (refreshLamp (recompute w))).share d c = w.share d c :=
  share_congr (by simp) (by simp) d

theorem regranted_recompute {s w : State} (hcap : w.cap = s.cap) : Regranted s (refreshLamp (recompute w)) := by
  have hdivision := withGrantsOf_recompute_division hcap
  refine ⟨?_, fun c => ?_⟩
  · simp [hdivision, hcap]
  · simp [hdivision, withGrantsOf_recompute_share]

/-- The GRANT frames of an acceptance's recomputation are the last deck frames. -/
theorem grantFrames_recompute {s w : State} (hcap : w.cap = s.cap) (hgrant : ∀ c, (w.cell c).grant = (s.cell c).grant) :
    (s.withGrantsOf (refreshLamp (recompute w))).grantFrames <:+ (refreshLamp (recompute w)).ports.deck := by
  have hdivision := withGrantsOf_recompute_division hcap
  have hcells : regrantedCells (s.withGrantsOf (refreshLamp (recompute w))) = regrantedCells w := by
    simp [regrantedCells, State.serving, hdivision, withGrantsOf_recompute_share, hgrant]
  refine ⟨w.ports.deck, ?_⟩
  simp only [State.grantFrames, State.sentSince, recompute_deck, hcells, hdivision, withGrantsOf_recompute_share,
    List.drop_left, refreshLamp_ports]

/-- A frame that follows what the deck port held was sent since. -/
theorem mem_sentSince {s t : State} {front back : List (CellId × DeckFrame)} {e : CellId × DeckFrame}
    (hfront : s.ports.deck <+: front) (ht : t.ports.deck = front ++ e :: back) : e ∈ s.sentSince t := by
  obtain ⟨sent, rfl⟩ := hfront
  simp [State.sentSince, ht]

/-! ### An acceptance from ABSENT, LOST or SILENT, and afresh -/

/-- The state an acceptance leaves: the cell seated, and the CAP's recomputation where it runs. -/
def afterJoin (runs : Prop) [Decidable runs] (c : CellId) (serial : Nat) (u : State) : State :=
  refreshLamp (if runs then recompute (seated c serial u) else seated c serial u)

section

variable {runs : Prop} [Decidable runs] {c : CellId} {serial : Nat} {u : State}

theorem afterJoin_runs (h : runs) : afterJoin runs c serial u = refreshLamp (recompute (seated c serial u)) := by
  rw [afterJoin, if_pos h]

theorem afterJoin_rests (h : ¬runs) : afterJoin runs c serial u = refreshLamp (seated c serial u) := by
  rw [afterJoin, if_neg h]

/-- What neither a recomputation nor the lamp changes is as the cell's seating leaves it. -/
theorem afterJoin_part {β : Type} (f : State → β) (hlamp : ∀ s, f (refreshLamp s) = f s) (hgrants : ∀ s, f (recompute s) = f s) :
    f (afterJoin runs c serial u) = f (seated c serial u) := by
  unfold afterJoin
  rw [hlamp]
  split
  · exact hgrants _
  · rfl

/-- The joining cell's record: its grant is 0 where the CAP recomputed, since its demand is. -/
theorem afterJoin_cell_self :
    (afterJoin runs c serial u).cell c =
      { joinedCell serial u (u.cell c) with grant := if runs then 0 else (u.cell c).grant } := by
  have hdemand : ((seated c serial u).cell c).demand = 0 := by rw [seated_cell_self]; rfl
  by_cases h : runs
  · rw [afterJoin_runs h, refreshLamp_cell, recompute_cell, share_of_demand_zero hdemand, seated_cell_self, if_pos h]
  · rw [afterJoin_rests h, refreshLamp_cell, seated_cell_self, if_neg h]
    rfl

theorem afterJoin_cell_ne {d : CellId} (h : d ≠ c) :
    (afterJoin runs c serial u).cell d = { u.cell d with grant := ((afterJoin runs c serial u).cell d).grant } := by
  by_cases hr : runs
  · rw [afterJoin_runs hr, refreshLamp_cell, recompute_cell, seated_cell_ne h]
  · rw [afterJoin_rests hr, refreshLamp_cell, seated_cell_ne h]

theorem afterJoin_retuneList : (afterJoin runs c serial u).duc.retuneList = u.duc.retuneList.filter (· != c) :=
  (afterJoin_part (fun s => s.duc.retuneList) (by simp) (by simp)).trans (seated_retuneList ..)

theorem afterJoin_epc : (afterJoin runs c serial u).epc = (seated c serial u).epc :=
  afterJoin_part State.epc (by simp) fun s => by rw [recompute_frame]

theorem afterJoin_context (k : Nat) : (afterJoin runs c serial u).context k = (seated c serial u).context k :=
  afterJoin_part (fun s => s.context k) (by simp) fun s => by rw [recompute_frame]; rfl

/-- The frames: those of the settling, the answer, and the recomputation's. -/
theorem afterJoin_deck :
    ∃ frames, (afterJoin runs c serial u).ports.deck
      = (joinStruck c serial u).ports.deck ++ (c, joinFrame (joinStruck c serial u)) :: frames := by
  by_cases h : runs
  · rw [afterJoin_runs h, refreshLamp_ports, recompute_deck, seated_deck, List.append_assoc]
    exact ⟨_, rfl⟩
  · rw [afterJoin_rests h, refreshLamp_ports, seated_deck]
    exact ⟨_, rfl⟩

theorem afterJoin_sent {s : State} (h : s.ports.deck <+: u.ports.deck) :
    (c, if u.zone.service = true then .acceptServe u.zone.beacon (afterJoin runs c serial u).newestEpoch.number
      else .acceptSilent) ∈ s.sentSince (afterJoin runs c serial u) := by
  obtain ⟨frames, hdeck⟩ := afterJoin_deck (runs := runs) (c := c) (serial := serial) (u := u)
  have hframe : joinFrame (joinStruck c serial u) =
      if u.zone.service = true then .acceptServe u.zone.beacon (afterJoin runs c serial u).newestEpoch.number
      else .acceptSilent := by
    rw [joinFrame_seated, State.newestEpoch, State.newestEpoch, afterJoin_epc]
  rw [← hframe]
  exact mem_sentSince (h.trans (seated_deck_prefix ..)) hdeck

theorem afterJoin_pending (h : (u.cell c).state ≠ .absent) :
    ∀ e ∈ (afterJoin runs c serial u).epc.ring, c ∉ e.pendingSet := by
  rw [afterJoin_epc]
  exact seated_pending h serial

theorem afterJoin_outsideJoin : outsideJoin (afterJoin runs c serial u) = outsideJoin u :=
  (afterJoin_part outsideJoin refreshLamp_outsideJoin recompute_outsideJoin).trans (seated_outsideJoin ..)

end

end Sys2Proof.Proofs
end

section
/-! SUPPORT. A restarted unit's acceptance (R65): what it leaves beside the JOIN, and the orphans it makes. -/

namespace Sys2Proof.Proofs

open Sys2Proof.Machine

/-! ### What a restarted unit leaves (R65) -/

/-- A state without what a restarted unit's acceptance may change. -/
def besideRestart (s : State) : State := outsideJoin (outside s)

/-- Charging, dispatching, accepting and recomputing: nothing beside them changes, and deck frames are only added. -/
structure Beside (s t : State) : Prop where
  beside : besideRestart t = besideRestart s
  deck : s.ports.deck <+: t.ports.deck

namespace Beside

variable {s t u : State}

theorem refl (s : State) : Beside s s := ⟨rfl, List.prefix_rfl⟩

theorem trans (h : Beside s t) (g : Beside t u) : Beside s u := ⟨g.beside.trans h.beside, h.deck.trans g.deck⟩

theorem of_charged (h : Charged s t) : Beside s t := ⟨congrArg outsideJoin h.outside, h.deck⟩

theorem of_outsideJoin (h : outsideJoin t = outsideJoin s) (hdeck : s.ports.deck <+: t.ports.deck) : Beside s t := by
  refine ⟨?_, hdeck⟩
  have hjoin (x : State) : besideRestart x =
      { outsideJoin x with rge := (besideRestart x).rge, rte := (besideRestart x).rte } := rfl
  rw [hjoin, hjoin s, h]
  rfl

theorem ite {p : Prop} [Decidable p] {a b : State} (ha : p → Beside s a) (hb : ¬p → Beside s b) : Beside s (if p then a else b) := by
  split
  next h => exact ha h
  next h => exact hb h

theorem part {β : Type} (h : Beside s t) (f : State → β) (hf : ∀ x, f (besideRestart x) = f x) : f t = f s := by
  rw [← hf t, h.beside, hf]

theorem shipTime (h : Beside s t) : t.shipTime = s.shipTime := h.part State.shipTime fun _ => rfl

theorem settings (h : Beside s t) : t.settings = s.settings := h.part State.settings fun _ => rfl

theorem pzu (h : Beside s t) : t.pzu = s.pzu := h.part State.pzu fun _ => rfl

theorem lkm (h : Beside s t) : t.lkm = s.lkm := h.part State.lkm fun _ => rfl

theorem cfs (h : Beside s t) : t.cfs = s.cfs := h.part State.cfs fun _ => rfl

theorem mail (h : Beside s t) : t.mail = s.mail := h.part State.mail fun _ => rfl

theorem pending (h : Beside s t) : t.pending = s.pending := h.part State.pending fun _ => rfl

theorem terminal (h : Beside s t) : t.ports.terminal = s.ports.terminal := h.part (fun x => x.ports.terminal) fun _ => rfl

end Beside

theorem modCell_beside (c : CellId) (f : Cell → Cell) (s : State) : Beside s (modCell c f s) :=
  .of_outsideJoin rfl List.prefix_rfl

theorem leaveRetuneList_beside (c : CellId) (s : State) : Beside s (leaveRetuneList c s) :=
  .of_outsideJoin rfl List.prefix_rfl

theorem recompute_beside (s : State) : Beside s (recompute s) :=
  .of_outsideJoin (recompute_outsideJoin s) (by rw [recompute_deck]; exact List.prefix_append ..)

theorem dispatchCell_beside (c : CellId) (s : State) : Beside s (dispatchCell c s) := by
  have hsent := (leaveRetuneList_beside c s).trans
    (.of_charged (sendDeck_settled c (.retune s.zone.beacon s.newestEpoch.number) _).toCharged)
  exact .ite (fun _ => ((hsent.trans (modCell_beside ..)).trans (modCell_beside ..)).trans (recompute_beside _))
    fun _ => hsent.trans (modCell_beside ..)

theorem dispatchWhile_beside (limit n : Nat) (s : State) : Beside s (dispatchWhile limit n s) := by
  induction n generalizing s with
  | zero => exact .refl s
  | succ n ih =>
    unfold dispatchWhile
    split
    next => exact .refl s
    next c _ _ => exact .ite (fun _ => (dispatchCell_beside c s).trans (ih _)) fun _ => .refl s

theorem restartPrepared_beside (c : CellId) (s : State) : Beside s (restartPrepared c s) :=
  .trans (.ite (fun _ => modCell_beside ..) fun _ => .refl s) (.of_charged (orphanCell_charged ..))

theorem unitRestarted_beside (c : CellId) (s : State) : Beside s (unitRestarted c s) := by
  rw [unitRestarted_eq]
  exact .ite (fun _ => (restartPrepared_beside c s).trans (dispatchWhile_beside ..)) fun _ => restartPrepared_beside c s

theorem afterJoin_beside (runs : Prop) [Decidable runs] (c : CellId) (serial : Nat) (u : State) :
    Beside u (afterJoin runs c serial u) := by
  refine .of_outsideJoin afterJoin_outsideJoin ?_
  obtain ⟨frames, hdeck⟩ := afterJoin_deck (runs := runs) (c := c) (serial := serial) (u := u)
  rw [hdeck]
  exact (seated_deck_prefix ..).trans (List.prefix_append ..)

theorem unitRestarted_zone (c : CellId) (s : State) : (unitRestarted c s).zone = s.zone :=
  zone_congr (unitRestarted_beside c s).pzu

/-- A restart keeps the cell's state, but that a RETUNING cell may be sent another RETUNE. -/
theorem unitRestarted_state (c : CellId) (s : State) : ((unitRestarted c s).cell c).state = (s.cell c).state := by
  rw [unitRestarted_eq]
  split
  next hs =>
    rcases dispatchWhile_state _ _ c (restartPrepared c s) with hd | hd
    · rw [dispatchUpTo, hd, restartPrepared_state]
    · rw [dispatchUpTo, hd, hs]
  next => exact restartPrepared_state ..

theorem unitRestarted_cap {c : CellId} {s : State} (h : (s.cell c).state ≠ .retuning) : (unitRestarted c s).cap = s.cap := by
  rw [unitRestarted_eq, if_neg h]
  refine (orphanCell_charged c _).cap.trans ?_
  split <;> rfl

/-! ### The orphans of a restarted unit (R65, R114) -/

theorem freeContext_context_ne {j k : Nat} (h : j ≠ k) (s : State) : (freeContext k s).context j = s.context j := by
  unfold freeContext
  split
  next => rfl
  next => exact Assoc.get_erase_ne _ h

theorem completeCounts_mark_ne {j k : Nat} (h : j ≠ k) (s : State) :
    ((completeCounts k s).context j).map mark = (s.context j).map mark := by
  unfold completeCounts
  split
  · exact (modContext_settled (f := fun x => { x with leaving := some ⟨.serviceOff, true⟩ }) fun _ => rfl).marks j
  · rw [freeContext_context_ne h, (closeAccumulator_settled ..).marks]

/-- An orphaning touches no other context's mark. -/
theorem orphanContext_mark_ne {j k : Nat} (h : j ≠ k) (s : State) :
    ((orphanContext k s).context j).map mark = (s.context j).map mark := by
  unfold orphanContext
  split
  next => rfl
  next =>
    split
    next =>
      split
      · exact completeCounts_mark_ne h s
      · rfl
    next =>
      split
      · rfl
      · rw [setContext_context_ne h]

/-- The cell's context is in use, and not LEAVING. -/
def InUse (c : CellId) (k : Nat) (s : State) : Prop :=
  ∃ orphan state, (s.context k).map mark = some (c, orphan, state) ∧ state ≠ .leaving

/-- The cell's context is an orphan, and not LEAVING. -/
def Orphaned (c : CellId) (k : Nat) (s : State) : Prop :=
  ∃ deadline state, (s.context k).map mark = some (c, some deadline, state) ∧ state ≠ .leaving

section

variable {c : CellId} {j k : Nat} {s t : State}

theorem Orphaned.inUse (h : Orphaned c k s) : InUse c k s := by
  obtain ⟨deadline, state, hmark, hstate⟩ := h
  exact ⟨some deadline, state, hmark, hstate⟩

theorem Orphaned.of_marks (h : Orphaned c k s) (ht : (t.context k).map mark = (s.context k).map mark) : Orphaned c k t := by
  rwa [Orphaned, ht]

theorem Orphaned.isSome (h : Orphaned c k s) : ((s.context k).bind Context.orphan).isSome = true := by
  obtain ⟨deadline, state, hmark, -⟩ := h
  obtain ⟨x, hx, hmark⟩ := Option.map_eq_some_iff.mp hmark
  have horphan : x.orphan = some deadline := congrArg (fun m => m.2.1) hmark
  rw [hx, Option.bind_some, horphan, Option.isSome_some]

/-- Where the contexts stand in order, each stands under its index. -/
theorem inUse_of_mem (h : ContextsInOrder s) {e : Nat × Context} (he : e ∈ s.sbt.contexts) (hc : e.2.cell = c)
    (hstate : e.2.state ≠ .leaving) : InUse c e.1 s := by
  have hget : s.context e.1 = some e.2 := (Assoc.get_eq_some_iff _ h _ _).mpr he
  exact ⟨e.2.orphan, e.2.state, by rw [hget, Option.map_some, mark, hc], hstate⟩

/-- An orphaning makes its own context an orphan, or finds it one. -/
theorem orphanContext_orphaned (h : InUse c k s) : Orphaned c k (orphanContext k s) := by
  obtain ⟨orphan, state, hmark, hstate⟩ := h
  obtain ⟨x, hx, hmark⟩ := Option.map_eq_some_iff.mp hmark
  cases hmark
  unfold orphanContext
  rw [hx]
  dsimp only
  rw [if_neg (by simpa using hstate)]
  split
  next d horphan => exact ⟨d, x.state, by rw [hx, Option.map_some, mark, horphan], hstate⟩
  next => exact ⟨_, x.state, by rw [setContext_context_self, Option.map_some, mark], hstate⟩

theorem orphanContext_keeps_inUse (j : Nat) (h : InUse c k s) : InUse c k (orphanContext j s) := by
  by_cases hj : k = j
  · subst hj
    exact (orphanContext_orphaned h).inUse
  · rwa [InUse, orphanContext_mark_ne hj]

theorem orphanContext_keeps_orphaned (j : Nat) (h : Orphaned c k s) : Orphaned c k (orphanContext j s) := by
  by_cases hj : k = j
  · subst hj
    exact orphanContext_orphaned h.inUse
  · exact h.of_marks (orphanContext_mark_ne hj s)

theorem inUse_cell (h : InUse c k s) : ((s.context k).map Context.cell == some c) = true := by
  obtain ⟨_, _, hmark, -⟩ := h
  obtain ⟨x, hx, hmark⟩ := Option.map_eq_some_iff.mp hmark
  have hcell : x.cell = c := congrArg Prod.fst hmark
  simp [hx, hcell]

/-- One turn of a cell's orphaning. -/
def orphanTurn (c : CellId) (k : Nat) (t : State) : State :=
  if (t.context k).map Context.cell == some c then orphanContext k t else t

theorem orphanTurns_keep {property : State → Prop} (h : ∀ j t, property t → property (orphanContext j t)) {items : List Nat}
    (hs : property s) : property (forEach items (orphanTurn c) s) :=
  forEach_keeps (property := property)
    (fun j _ t ht => by
      unfold orphanTurn
      split
      · exact h j t ht
      · exact ht) hs

/-- A cell's orphaning makes each of its contexts an orphan. -/
theorem orphanCell_orphaned (hk : k ∈ s.contextIndices) (h : InUse c k s) : Orphaned c k (orphanCell c s) := by
  obtain ⟨front, back, hsplit⟩ := List.append_of_mem hk
  have hfront : InUse c k (forEach front (orphanTurn c) s) :=
    orphanTurns_keep (fun j _ => orphanContext_keeps_inUse j) h
  have hturn : Orphaned c k (orphanTurn c k (forEach front (orphanTurn c) s)) := by
    rw [orphanTurn, if_pos (inUse_cell hfront)]
    exact orphanContext_orphaned hfront
  have hcell : orphanCell c s = forEach back (orphanTurn c) (orphanTurn c k (forEach front (orphanTurn c) s)) := by
    show forEach s.contextIndices (orphanTurn c) s = _
    rw [hsplit, forEach, List.foldl_append]
    rfl
  rw [hcell]
  exact orphanTurns_keep (fun j _ => orphanContext_keeps_orphaned j) hturn

end

/-! ### What keeps a context's mark -/

theorem recompute_context (s : State) (k : Nat) : (recompute s).context k = s.context k := by
  rw [recompute_frame]
  rfl

theorem dispatchCell_context (c : CellId) (s : State) (k : Nat) : (dispatchCell c s).context k = s.context k := by
  have hsent : (sendDeck c (.retune s.zone.beacon s.newestEpoch.number) (leaveRetuneList c s)).context k = s.context k := by
    unfold sendDeck
    split <;> rfl
  unfold dispatchCell
  dsimp only
  split
  · rw [leaveServing, recompute_context]
    exact hsent
  · exact hsent

theorem dispatchWhile_context (limit n : Nat) (s : State) (k : Nat) : (dispatchWhile limit n s).context k = s.context k := by
  induction n generalizing s with
  | zero => rfl
  | succ n ih =>
    unfold dispatchWhile
    split
    next => rfl
    next c _ _ =>
      split
      · rw [ih, dispatchCell_context]
      · rfl

theorem unitRestarted_orphaned {c : CellId} {k : Nat} {s : State} (hk : k ∈ s.contextIndices) (h : InUse c k s) :
    Orphaned c k (unitRestarted c s) := by
  have hprepared : Orphaned c k (restartPrepared c s) := by
    unfold restartPrepared
    split
    · exact orphanCell_orphaned hk h
    · exact orphanCell_orphaned hk h
  rw [unitRestarted_eq]
  split
  · exact hprepared.of_marks (by rw [dispatchUpTo, dispatchWhile_context])
  · exact hprepared

theorem afterJoin_marks (runs : Prop) [Decidable runs] (c : CellId) (serial : Nat) (u : State) (k : Nat) :
    ((afterJoin runs c serial u).context k).map mark = (u.context k).map mark := by
  rw [afterJoin_context]
  exact (joinStruck_settled c serial u).marks k

end Sys2Proof.Proofs
end

section
/-! SUPPORT. The settling theorem for JOIN (R62 to R65). -/

namespace Sys2Proof.Proofs

open Sys2Proof.Machine

theorem exec_join_held {s : State} {serial : Nat} (h : s.holdsJoins = true) (c : CellId) (hserial : serial < 4294967296) :
    Becomes (exec (.join c.val serial) s)
      { s with duc := { s.duc with heldJoins := s.duc.heldJoins ++ [(c, serial)] } } := by
  show done _ = _
  rw [cellAt_val]
  simp only [Nat.mod_eq_of_lt hserial, if_pos h, done]

theorem exec_join_taken {s : State} {serial : Nat} (h : s.holdsJoins = false) (c : CellId) (hserial : serial < 4294967296) :
    exec (.join c.val serial) s = .next (refreshLamp (takeJoin c serial s)) := by
  show done _ = _
  rw [cellAt_val]
  simp only [Nat.mod_eq_of_lt hserial, h, Bool.false_eq_true, if_false, done]

/-! ### A JOIN by cell state (R63 to R65) -/

theorem takeJoin_disabled {c : CellId} {s : State} (h : (s.cell c).state = .disabled) (serial : Nat) :
    takeJoin c serial s = emitDeck c .refuseJoin s := by
  unfold takeJoin
  rw [h]

theorem takeJoin_away {c : CellId} {s : State}
    (h : (s.cell c).state = .absent ∨ (s.cell c).state = .lost ∨ (s.cell c).state = .silent) (serial : Nat) :
    takeJoin c serial s = acceptJoin c serial s := by
  unfold takeJoin
  rcases h with h | h | h <;> rw [h]

theorem takeJoin_again {c : CellId} {s : State} (h : (s.cell c).state = .serving) :
    takeJoin c (s.cell c).serial s = acceptAgain c s := by
  unfold takeJoin
  rw [h]
  exact if_pos rfl

theorem takeJoin_out_of_place {c : CellId} {s : State}
    (h : (s.cell c).state = .doze ∨ (s.cell c).state = .deep ∨ (s.cell c).state = .retuning ∨ (s.cell c).state = .silencing) :
    takeJoin c (s.cell c).serial s = countBad c s := by
  unfold takeJoin
  rcases h with h | h | h | h <;> rw [h] <;> exact if_pos rfl

theorem dozing_iff {x : CellState} : x.dozing = true ↔ x = .doze ∨ x = .deep := by cases x <;> decide

theorem takeJoin_restart {c : CellId} {s : State} {serial : Nat} (hserial : serial ≠ (s.cell c).serial)
    (h : (s.cell c).state = .serving ∨ (s.cell c).state.dozing = true ∨ (s.cell c).state = .retuning
      ∨ (s.cell c).state = .silencing) :
    takeJoin c serial s = restartJoin c serial s := by
  unfold takeJoin
  rcases h with h | h | h | h
  case inr.inl =>
    rcases dozing_iff.mp h with h | h <;> rw [h] <;> exact if_neg hserial
  all_goals
    rw [h]
    exact if_neg hserial

/-- The acceptance again of the recorded serial, written out (R64). -/
theorem acceptAgain_eq (c : CellId) (s : State) :
    acceptAgain c s =
      setCell c
        { s.cell c with
          phase := .a
          good := false
          heartbeatTimer := some (s.shipTime + 1000 * s.settings.heartbeatPeriod) }
        { s with
          ports :=
            { s.ports with
              deck :=
                s.ports.deck ++ [(c, .acceptServe s.zone.beacon s.newestEpoch.number)]
                  ++ (if 0 < (s.cell c).grant then [(c, .grant (s.cell c).grant)] else []) } } := by
  have hmod : armHeartbeat c (modCell c (fun x => { x with phase := .a, good := false })
      (emitDeck c (.acceptServe s.zone.beacon s.newestEpoch.number) s)) =
      setCell c
        { s.cell c with
          phase := .a
          good := false
          heartbeatTimer := some (s.shipTime + 1000 * s.settings.heartbeatPeriod) }
        (emitDeck c (.acceptServe s.zone.beacon s.newestEpoch.number) s) := by
    simp only [armHeartbeat, modCell_modCell]
    rfl
  unfold acceptAgain
  dsimp only
  rw [hmod]
  split
  · rfl
  · simp only [List.append_nil]
    rfl

/-! ### The acceptance of a unit that was away (R63) -/

theorem acceptJoin_away {c : CellId} {s : State} (h : (s.cell c).state ≠ .serving) (serial : Nat) :
    refreshLamp (acceptJoin c serial s) = afterJoin (s.zone.service = true) c serial s := by
  rw [acceptJoin_eq, afterJoin]
  exact congrArg refreshLamp (if_congr (by simp [h]) rfl rfl)

/-- From ABSENT no epoch and no ticket is touched: the cell is in no pending set. -/
theorem afterJoin_of_absent {runs : Prop} [Decidable runs] {c : CellId} {s : State} (h : (s.cell c).state = .absent)
    (serial : Nat) :
    let t := afterJoin runs c serial s
    t.epc = s.epc ∧ t.sbt = s.sbt ∧ t.tkq = s.tkq ∧ t.rte = s.rte ∧ t.rge = s.rge ∧ t.ctp = s.ctp := by
  have hstruck : joinStruck c serial s = modCell c (Cell.accepted serial) (leaveRetuneList c s) := if_pos h
  have hparts := afterJoin_part (runs := runs) (c := c) (serial := serial) (u := s)
    (fun x => (x.epc, x.sbt, x.tkq, x.rte, x.rge, x.ctp)) (by simp) fun x => by rw [recompute_frame]
  have hseated : ((seated c serial s).epc, (seated c serial s).sbt, (seated c serial s).tkq, (seated c serial s).rte,
      (seated c serial s).rge, (seated c serial s).ctp) = (s.epc, s.sbt, s.tkq, s.rte, s.rge, s.ctp) := by
    rw [seated, hstruck]
    rfl
  simpa using hparts.trans hseated

theorem takeJoin_away_eq_afterJoin {c : CellId} {s : State}
    (h : (s.cell c).state = .absent ∨ (s.cell c).state = .lost ∨ (s.cell c).state = .silent) (serial : Nat) :
    refreshLamp (takeJoin c serial s) = afterJoin (s.zone.service = true) c serial s := by
  rw [takeJoin_away h]
  exact acceptJoin_away (by rcases h with h | h | h <;> simp [h]) serial

/-! ### The acceptance of a restarted unit (R65) -/

/-- A restarted unit's cell is seated as if it had been there before (R65). -/
theorem joinedCell_unitRestarted (c : CellId) (serial : Nat) (s : State) (x : Cell) :
    joinedCell serial (unitRestarted c s) x = joinedCell serial s x := by
  have hbeside := unitRestarted_beside c s
  simp only [joinedCell, unitRestarted_zone, State.deadline, hbeside.shipTime, hbeside.settings]

/-- A state in which a restarted unit is accepted: its cell seated again, and the CAP's recomputation where it runs (R53, R65). -/
def restartAccepted (c : CellId) (serial : Nat) (s : State) : State :=
  afterJoin (s.zone.service = true ∨ (s.cell c).state = .serving) c serial (unitRestarted c s)

theorem restartJoin_eq_restartAccepted (c : CellId) (serial : Nat) (s : State) :
    refreshLamp (restartJoin c serial s) = restartAccepted c serial s := by
  rw [restartJoin_eq c serial s (by rw [unitRestarted_state]) (unitRestarted_zone c s), restartAccepted, afterJoin]

section

variable {c : CellId} {s : State}

theorem restartAccepted_cell_self (serial : Nat) :
    (restartAccepted c serial s).cell c =
      { joinedCell serial s ((unitRestarted c s).cell c) with
        grant := if s.zone.service = true ∨ (s.cell c).state = .serving then 0 else ((unitRestarted c s).cell c).grant } := by
  rw [restartAccepted, afterJoin_cell_self, joinedCell_unitRestarted]

theorem restartAccepted_grant (h : GrantLaw s) (serial : Nat) : ((restartAccepted c serial s).cell c).grant = 0 := by
  rw [restartAccepted_cell_self]
  exact ite_eq_left_iff.mpr fun _ => unitRestarted_grant h

theorem restartAccepted_beside (c : CellId) (serial : Nat) (s : State) : Beside s (restartAccepted c serial s) :=
  (unitRestarted_beside c s).trans (afterJoin_beside ..)

theorem restartAccepted_sent (serial : Nat) :
    (c, if s.zone.service = true then .acceptServe s.zone.beacon (restartAccepted c serial s).newestEpoch.number
      else .acceptSilent) ∈ s.sentSince (restartAccepted c serial s) := by
  rw [← unitRestarted_zone c s]
  exact afterJoin_sent (unitRestarted_beside c s).deck

theorem restartAccepted_regranted (hz : s.zone.service = true) (hs : (s.cell c).state ≠ .retuning) (serial : Nat) :
    Regranted s (restartAccepted c serial s) := by
  rw [restartAccepted, afterJoin_runs (.inl hz)]
  exact regranted_recompute ((seated_cap ..).trans (unitRestarted_cap hs))

theorem restartAccepted_not_listed (serial : Nat) : c ∉ (restartAccepted c serial s).duc.retuneList := by
  rw [restartAccepted, afterJoin_retuneList]
  simp

theorem restartAccepted_pending (hs : (s.cell c).state ≠ .absent) (serial : Nat) :
    ∀ e ∈ (restartAccepted c serial s).epc.ring, c ∉ e.pendingSet :=
  afterJoin_pending (by rwa [unitRestarted_state])

theorem restartAccepted_orphan (horder : ContextsInOrder s) {e : Nat × Context} (he : e ∈ s.sbt.contexts)
    (hc : e.2.cell = c) (hl : e.2.state ≠ .leaving) (serial : Nat) :
    (((restartAccepted c serial s).context e.1).bind Context.orphan).isSome = true := by
  have horphaned := unitRestarted_orphaned (List.mem_map_of_mem he) (inUse_of_mem horder he hc hl)
  exact (horphaned.of_marks (afterJoin_marks ..)).isSome

end

/-- Settles O41, by what an acceptance leaves: the cell seated and, in waters with service or from SERVING, one recomputation. -/
theorem joining : Obligations.Joining := by
  intro s c serial hserial
  refine ⟨fun hheld => exec_join_held hheld c hserial, fun hfree hstate => ?_, fun hfree hstate => ?_,
    fun hfree hstate hsame => ?_, fun hfree hsame hstate => ?_, fun hfree hnew hstate => ?_⟩
  · rw [exec_join_taken hfree c hserial, takeJoin_disabled hstate]
    rfl
  · rw [exec_join_taken hfree c hserial, takeJoin_away_eq_afterJoin hstate]
    refine ⟨_, rfl, ?_, afterJoin_sent List.prefix_rfl, afterJoin_retuneList, fun hz => ?_, fun hz => ?_,
      afterJoin_pending, fun h => afterJoin_of_absent h serial, fun d hd => afterJoin_cell_ne hd,
      eq_of_outsideJoin afterJoin_outsideJoin⟩
    · rw [afterJoin_cell_self]
      rfl
    · rw [afterJoin_runs hz]
      exact ⟨regranted_recompute (seated_cap ..), grantFrames_recompute (seated_cap ..) fun d => seated_grant ..⟩
    · rw [afterJoin_rests (by simp [hz])]
      exact ⟨by simp [seated_cap], fun d => by simp [seated_grant]⟩
  · rw [exec_join_taken hfree c hserial, hsame, takeJoin_again hstate, acceptAgain_eq]
  · rw [exec_join_taken hfree c hserial, hsame, takeJoin_out_of_place hstate, countBad_eq]
  · have hpresent : (s.cell c).state ≠ .absent := by
      intro h
      simp [h, CellState.dozing] at hstate
    have hcell := restartAccepted_cell_self (c := c) (s := s) serial
    have hbeside := restartAccepted_beside c serial s
    rw [exec_join_taken hfree c hserial, takeJoin_restart hnew hstate, restartJoin_eq_restartAccepted]
    refine ⟨_, rfl, congrArg Cell.state hcell, congrArg Cell.serial hcell, congrArg Cell.demand hcell,
      fun hlaw => restartAccepted_grant hlaw serial, congrArg Cell.phase hcell, congrArg Cell.power hcell,
      congrArg Cell.missed hcell, congrArg Cell.target hcell, congrArg Cell.heartbeatTimer hcell,
      fun hz hs => restartAccepted_regranted hz hs serial, restartAccepted_not_listed serial,
      restartAccepted_pending hpresent serial, restartAccepted_sent serial,
      fun horder e he hc hl => restartAccepted_orphan horder he hc hl serial, hbeside.shipTime, hbeside.settings,
      hbeside.pzu, hbeside.lkm, hbeside.cfs, hbeside.mail, hbeside.pending, hbeside.terminal⟩

end Sys2Proof.Proofs
end

section
/-! SUPPORT. The configuration store (R73, R192), and the settling of O26. -/

namespace Sys2Proof.Proofs

open Sys2Proof.Machine

/-- What the store keeps of links and cells, record by record. -/
theorem map_eq_ofFn {n : Nat} {α β : Type} (v : Vector α n) (f : α → β) : v.map f = Vector.ofFn fun i => f (v.get i) := by
  ext i hi
  simp only [Vector.getElem_map, Vector.getElem_ofFn]
  rfl

/-- The snapshot in the words of O26. -/
theorem snapshot_eq (s : State) :
    s.snapshot =
      { zones := s.pzu.table
        partners := s.newestPartner.table
        tariffs := s.newestTariff.table
        patterns := s.sbt.patterns
        settings := s.settings
        code := s.ctp.code
        links := Vector.ofFn fun l => (s.link l).cfg
        disabled := Vector.ofFn fun c => (s.cell c).state == .disabled } := by
  simp only [State.snapshot, map_eq_ofFn]
  rfl

/-- Settles O26: the rule by the store's state, and the completion by whether a write is under way. -/
theorem configurationStore : Obligations.ConfigurationStore := by
  intro s tag success ht
  have hfits : bodyFits 0x6C [] = true := bodyFits_of_length rfl (by decide) (by simp) (by simp)
  refine ⟨fun hr => ?_, ?_⟩
  · rw [← snapshot_eq]
    split
    next hbusy => exact replies_of_arrived ht hr hfits rfl (if_pos hbusy)
    next hfree => exact replies_of_arrived ht hr hfits rfl (if_neg hfree)
  · cases hw : s.cfs.writing with
    | none => simp only [exec, execStoreWriteCompletion, hw, done]
    | some w => simp only [exec, execStoreWriteCompletion, hw, done, completeWrite]

end Sys2Proof.Proofs
end

section
/-! SUPPORT. What charging one context does (R155 to R162, R168, R169): the context's record, the tickets it makes, and all that it
leaves as it is. -/

namespace Sys2Proof.Proofs

open Sys2Proof.Machine

/-! ### Conditions stay set (R184) -/

/-- Every condition that was set is set. -/
def CondsKept (s t : State) : Prop := ∀ d, s.condSet d = true → t.condSet d = true

namespace CondsKept

variable {s t u : State}

theorem refl (s : State) : CondsKept s s := fun _ h => h

theorem trans (h : CondsKept s t) (g : CondsKept t u) : CondsKept s u := fun d hd => g d (h d hd)

theorem of_ctp (h : t.ctp = s.ctp) : CondsKept s t := fun d hd => by rwa [State.condSet, h]

end CondsKept

theorem setCond_condsKept (c : Condition) (s : State) : CondsKept s (setCond c s) := fun d => setCond_condSet_mono c d s

/-! ### The other entries of a sparse table -/

theorem erase_put {α : Type} (l : List (Nat × α)) (k : Nat) (v : α) : Assoc.erase (Assoc.put l k v) k = Assoc.erase l k := by
  unfold Assoc.erase
  induction l with
  | nil => simp [Assoc.put]
  | cons e t ih =>
    obtain ⟨j, w⟩ := e
    simp only [Assoc.put]
    split
    next => simp
    next =>
      split
      next h => simp [h]
      next => simp only [List.filter_cons, ih]

/-- In a rising list an entry found is one of the list, and the rest is the list without it. -/
theorem perm_of_get {α : Type} {l : List (Nat × α)} (h : l.Pairwise (fun a b => a.1 < b.1)) {k : Nat} {v : α}
    (hk : Assoc.get l k = some v) : l.Perm ((k, v) :: Assoc.erase l k) := by
  induction l with
  | nil => simp [Assoc.get] at hk
  | cons e t ih =>
    obtain ⟨j, w⟩ := e
    obtain ⟨hlt, ht⟩ := List.pairwise_cons.mp h
    by_cases hj : j = k
    · subst hj
      have hw : w = v := by simpa [Assoc.get] using hk
      have hrest : Assoc.erase t j = t := List.filter_eq_self.mpr fun e he => by simpa using (hlt e he).ne'
      have herase : Assoc.erase ((j, w) :: t) j = Assoc.erase t j := by simp [Assoc.erase]
      rw [herase, hrest, hw]
    · have hget : Assoc.get t k = some v := by simpa [Assoc.get, hj] using hk
      have herase : Assoc.erase ((j, w) :: t) k = (j, w) :: Assoc.erase t k := by simp [Assoc.erase, hj]
      rw [herase]
      exact ((ih ht hget).cons _).trans (.swap ..)

/-! ### The tickets of one context -/

/-- What a record or a ticket charges: its key and its bytes. -/
structure Volume where
  key : Key
  up : Nat
  down : Nat

/-- What an open accumulator charges. -/
def volume (a : Accumulator) : Volume := ⟨a.key, a.up, a.down⟩

/-- What a ticket says of its context, its subscriber, what it charges and why it was made. -/
def stub (v : Ticket) : Nat × Sid × Volume × CloseReason := (v.ctx, v.sid, ⟨v.key, v.up, v.down⟩, v.reason)

/-- A state without what handling one context may change. -/
def outsideHandling (s : State) : State :=
  { s with
    ctp := { s.ctp with conditions := 0#16, noticePending := false }
    sbt := { s.sbt with contexts := [] }
    rge := { s.rge with queue := [], outstanding := [] }
    rte := { s.rte with attention := [], lateEntries := 0 }
    tkq := State.reset.tkq
    ports := { s.ports with deck := [] } }

/-- Context `k` in use, whose record `x` becomes `y` while tickets are made for it, each with what it charges and its reason; the
other contexts stay, and so does all that handling a context does not write. -/
structure Handled (k : Nat) (x y : Context) (made : List (Volume × CloseReason)) (s t : State) : Prop where
  outside : outsideHandling t = outsideHandling s
  conds : CondsKept s t
  others : Assoc.erase t.sbt.contexts k = Assoc.erase s.sbt.contexts k
  order : ContextsInOrder s → ContextsInOrder t
  before : s.context k = some x
  after : t.context k = some y
  sid : y.sid = x.sid
  cell : y.cell = x.cell
  tickets : ∃ new, t.tkq.tickets = s.tkq.tickets ++ new ∧ new.map stub = made.map fun m => (k, x.sid, m)

/-- What the TKQ holds but for its tickets. -/
def tkqRest (s : State) : Tkq := { s.tkq with tickets := [], nextSeq := 0 }

/-- Handling a context without touching the hold list, the refusal count and the write-off record. -/
structure Billed (k : Nat) (x y : Context) (made : List (Volume × CloseReason)) (s t : State) : Prop
    extends Handled k x y made s t where
  rest : tkqRest t = tkqRest s

section

variable {k : Nat} {x y z : Context} {made more : List (Volume × CloseReason)} {s t u : State}

theorem Handled.trans (h : Handled k x y made s t) (g : Handled k y z more t u) : Handled k x z (made ++ more) s u where
  outside := g.outside.trans h.outside
  conds := h.conds.trans g.conds
  others := g.others.trans h.others
  order := g.order ∘ h.order
  before := h.before
  after := g.after
  sid := g.sid.trans h.sid
  cell := g.cell.trans h.cell
  tickets := by
    obtain ⟨new, htickets, hstubs⟩ := h.tickets
    obtain ⟨new', htickets', hstubs'⟩ := g.tickets
    exact ⟨new ++ new', by rw [htickets', htickets, List.append_assoc], by
      rw [List.map_append, List.map_append, hstubs, hstubs', h.sid]⟩

theorem Billed.trans (h : Billed k x y made s t) (g : Billed k y z more t u) : Billed k x z (made ++ more) s u :=
  ⟨h.toHandled.trans g.toHandled, g.rest.trans h.rest⟩

/-- A step that makes no ticket before one that may. -/
theorem Billed.step (h : Billed k x y [] s t) (g : Billed k y z made t u) : Billed k x z made s u := h.trans g

/-- A step that makes no ticket after one that may. -/
theorem Billed.last (h : Billed k x y made s t) (g : Billed k y z [] t u) : Billed k x z made s u := by
  have htrans := h.trans g
  rwa [List.append_nil] at htrans

theorem Billed.of_parts (h : s.context k = some x) (outside : outsideHandling t = outsideHandling s) (conds : CondsKept s t)
    (sbt : t.sbt = s.sbt) (tkq : t.tkq = s.tkq) : Billed k x x [] s t where
  outside := outside
  conds := conds
  others := by rw [sbt]
  order := by rw [ContextsInOrder, ContextsInOrder, sbt]; exact id
  before := h
  after := by rwa [State.context, sbt]
  sid := rfl
  cell := rfl
  tickets := ⟨[], by rw [tkq, List.append_nil], rfl⟩
  rest := by rw [tkqRest, tkq]; rfl

theorem Billed.refl (h : s.context k = some x) : Billed k x x [] s s := .of_parts h rfl (.refl s) rfl rfl

/-- The record replaced by another of the same subscriber at the same cell. -/
theorem setContext_billed (h : s.context k = some x) (hsid : y.sid = x.sid) (hcell : y.cell = x.cell) :
    Billed k x y [] s (setContext k y s) where
  outside := rfl
  conds := .of_ctp rfl
  others := erase_put ..
  order := Assoc.put_pairwise _ _ _
  before := h
  after := setContext_context_self ..
  sid := hsid
  cell := hcell
  tickets := ⟨[], (List.append_nil _).symm, rfl⟩
  rest := rfl

theorem modContext_eq {f : Context → Context} (h : s.context k = some x) : modContext k f s = setContext k (f x) s := by
  rw [modContext, h]

theorem modContext_billed {f : Context → Context} (h : s.context k = some x) (hsid : (f x).sid = x.sid)
    (hcell : (f x).cell = x.cell) : Billed k x (f x) [] s (modContext k f s) := by
  rw [modContext_eq h]
  exact setContext_billed h hsid hcell

theorem setCond_billed (h : s.context k = some x) (c : Condition) : Billed k x x [] s (setCond c s) :=
  .of_parts h rfl (setCond_condsKept c s) rfl rfl

theorem sendDeck_billed (h : s.context k = some x) (c : CellId) (f : DeckFrame) : Billed k x x [] s (sendDeck c f s) := by
  rcases sendDeck_cases c f s with ⟨-, hs⟩ | ⟨-, hs⟩ <;> rw [hs]
  · exact .of_parts h rfl (.of_ctp rfl) rfl rfl
  · exact .refl h

theorem restrict_billed (h : s.context k = some x) (f : Restrictions → Restrictions) :
    Billed k x { x with restrictions := f x.restrictions } [] s (restrict k f s) := by
  rcases restrict_cases k f s with ⟨hnone, -⟩ | ⟨x', hx', hr⟩
  · simp [h] at hnone
  · obtain rfl : x' = x := Option.some.inj (hx'.symm.trans h)
    have hset : Billed k x' { x' with restrictions := f x'.restrictions } [] s
      (setContext k { x' with restrictions := f x'.restrictions } s) := setContext_billed h rfl rfl
    rcases hr with hr | ⟨-, -, -, hr⟩ | ⟨-, -, -, hr⟩ <;> rw [hr]
    · exact hset
    · exact hset.step (sendDeck_billed hset.after ..)
    · exact hset.step (sendDeck_billed hset.after ..)

/-! ### The debit (R161 to R163) -/

theorem joinAttention_billed (h : s.context k = some x) (r : AttentionReason) : Billed k x x [] s (joinAttention k r s) := by
  have hlist (l : List (Nat × AttentionReason)) :
      Billed k x x [] s (setCond .quotaAttention { s with rte := { s.rte with attention := l } }) :=
    (.of_parts h rfl (setCond_condsKept _ { s with rte := { s.rte with attention := l } }) rfl rfl)
  unfold joinAttention
  split
  · exact hlist _
  · split
    · exact hlist _
    · exact .refl h

/-- A context's record with another quota, and restricted under QUOTA or not. -/
def debited (q : Quota) (b : Bool) (x : Context) : Context :=
  { x with quota := q, restrictions := { x.restrictions with quota := b } }

theorem notifyQuota_billed (h : s.context k = some x) (before : Nat) (q : Quota) :
    ∃ q', Billed k x { x with quota := q' } [] s (notifyQuota k before q s) := by
  have hjoined (r : AttentionReason) := joinAttention_billed h r
  have hnotified (r : AttentionReason) := (hjoined r).step
    (modContext_billed (f := fun x => { x with quota := { x.quota with lowNotified := true } }) (hjoined r).after rfl rfl)
  unfold notifyQuota
  split
  · exact ⟨_, hnotified .empty⟩
  · split
    · exact ⟨_, hnotified .low⟩
    · exact ⟨x.quota, .refl h⟩

theorem debit_billed (h : s.context k = some x) (d : Nat) : ∃ q b, Billed k x (debited q b x) [] s (debit k d s) := by
  unfold debit
  rw [h]
  dsimp only
  split
  · exact ⟨x.quota, x.restrictions.quota, .refl h⟩
  · have hset : Billed k x { x with quota := x.quota.debited d } [] s (setContext k { x with quota := x.quota.debited d } s) :=
      setContext_billed h rfl rfl
    split
    · obtain ⟨q, hq⟩ := notifyQuota_billed hset.after x.quota.balance (x.quota.debited d)
      exact ⟨q, x.restrictions.quota, hset.step hq⟩
    · have hrestrict := hset.step (restrict_billed hset.after fun r => { r with quota := true })
      obtain ⟨q, hq⟩ := notifyQuota_billed hrestrict.after x.quota.balance (x.quota.debited d)
      exact ⟨q, true, hrestrict.step hq⟩

/-! ### Closing (R159, R169) -/

theorem settled_volume (a : Accumulator) : volume a.settled = volume a := by
  unfold Accumulator.settled
  split <;> rfl

theorem appendTicket_billed (h : s.context k = some x) {v : Ticket} (hctx : v.ctx = k) (hsid : v.sid = x.sid) :
    Billed k x x [(⟨v.key, v.up, v.down⟩, v.reason)] s (appendTicket v s) := by
  have happend : Billed k x x [(⟨v.key, v.up, v.down⟩, v.reason)] s
      { s with tkq := { s.tkq with tickets := s.tkq.tickets ++ [v], nextSeq := (s.tkq.nextSeq + 1) % 4294967296 } } :=
    { outside := rfl
      conds := .of_ctp rfl
      others := rfl
      order := id
      before := h
      after := h
      sid := rfl
      cell := rfl
      tickets := ⟨[v], rfl, by simp [stub, hctx, hsid]⟩
      rest := rfl }
  unfold appendTicket
  dsimp only
  split
  · exact happend.trans (setCond_billed happend.after _)
  · exact happend

theorem handOver_billed (h : s.context k = some x) (a : Accumulator) (reason : CloseReason) :
    ∃ q b, Billed k x (debited q b x) [(volume a, reason)] s (handOver k a reason s) := by
  have hdebit : ∃ q b, Billed k x (debited q b x) [] s (if a.unsettled then debit k a.settlement s else s) := by
    split
    · exact debit_billed h _
    · exact ⟨x.quota, x.restrictions.quota, .refl h⟩
  obtain ⟨q, b, hdebit⟩ := hdebit
  refine ⟨q, b, ?_⟩
  have happend (u : State) (hu : u.context k = some (debited q b x)) :=
    appendTicket_billed (v := ticketOf k (debited q b x) a.settled reason u) hu rfl rfl
  unfold handOver
  dsimp only
  rw [hdebit.after, ← settled_volume a]
  exact hdebit.step (happend _ hdebit.after)

/-- What the closing of a record's accumulator makes. -/
def closing (reason : CloseReason) (x : Context) : List (Volume × CloseReason) :=
  x.accumulator.toList.map fun a => (volume a, reason)

theorem closeAccumulator_billed (h : s.context k = some x) (reason : CloseReason) :
    ∃ q b, Billed k x { debited q b x with accumulator := none } (closing reason x) s (closeAccumulator k reason s) := by
  unfold closeAccumulator closing
  rw [h, Option.bind_some]
  cases ha : x.accumulator with
  | none =>
    have hx : ({ debited x.quota x.restrictions.quota x with accumulator := none } : Context) = x := by
      rw [← ha]
      rfl
    exact ⟨x.quota, x.restrictions.quota, hx.symm ▸ .refl h⟩
  | some a =>
    obtain ⟨q, b, hhanded⟩ := handOver_billed h a reason
    exact ⟨q, b, hhanded.trans
      (modContext_billed (f := fun x => { x with accumulator := none }) hhanded.after rfl rfl)⟩

end

end Sys2Proof.Proofs
end

section
/-! SUPPORT. Rating one entry that finds room, and what becomes of held usage (R149, R153 to R158, R160, R165): the record left open
and the tickets made. -/

namespace Sys2Proof.Proofs

open Sys2Proof.Machine

/-- A context's record after rating: its quota and QUOTA restriction, its fee zone and its accumulator may have changed. -/
def rebilled (q : Quota) (b : Bool) (z : Option ZoneId) (a : Option Accumulator) (x : Context) : Context :=
  { debited q b x with feeZone := z, accumulator := a }

/-- The volume of a new record into which an entry is rated. -/
def Volume.first (key : Key) (up down : Nat) : Volume := ⟨key, min maxBytes up, min maxBytes down⟩

/-- A volume with an entry added. -/
def Volume.add (up down : Nat) (v : Volume) : Volume := ⟨v.key, min maxBytes (v.up + up), min maxBytes (v.down + down)⟩

/-- What rating an entry with room makes and leaves open: it goes into a record of its own key; an entry of an older epoch than the
record's becomes a LATE ticket by itself; any other closes the record and opens one of its own (R156, R160). -/
def rated (key : Key) (up down : Nat) (older : Bool) : Option Volume → List (Volume × CloseReason) × Volume
  | none => ([], .first key up down)
  | some v =>
    if v.key = key then ([], v.add up down)
    else if older then ([(.first key up down, .late)], v)
    else ([(v, v.key.difference key)], .first key up down)

/-- Whether a context's open record is of a newer epoch than the one an entry is rated under. -/
def olderEntry (s : State) (tag : Nat) (x : Context) : Bool :=
  x.accumulator.any fun a => decide (s.epochAge (s.ratingEpoch tag).number < s.epochAge a.lastEpoch)

section

variable {k up down : Nat} {x : Context} {s : State}

theorem priced_volume (a : Accumulator) (up down fee : Nat) : volume (a.priced up down fee) = (volume a).add up down := rfl

theorem rateInto_billed {a : Accumulator} (h : s.context k = some x) (ha : x.accumulator = some a) (epoch : Nat) (late : Bool) :
    ∃ q b z c, Billed k x (rebilled q b z (some c) x) [] s (rateInto k up down epoch late s)
      ∧ volume c = (volume a).add up down := by
  have hwritten (e : Accumulator) (f : Option ZoneId) (d : Nat) (he : volume e = (volume a).add up down) :
      ∃ q b z c, Billed k x (rebilled q b z (some c) x) []
          s (debit k d (setContext k { x with accumulator := some e, feeZone := f } s))
        ∧ volume c = (volume a).add up down := by
    have hset : Billed k x { x with accumulator := some e, feeZone := f } [] s
        (setContext k { x with accumulator := some e, feeZone := f } s) := setContext_billed h rfl rfl
    obtain ⟨q, b, hdebit⟩ := debit_billed hset.after d
    exact ⟨q, b, f, e, hset.step hdebit, he⟩
  unfold rateInto
  rw [h]
  dsimp only
  rw [ha]
  dsimp only
  refine hwritten _ _ _ ?_
  split <;> exact priced_volume (s.markEpoch a epoch late) up down (feeDue x a up down)

theorem countLate_billed (h : s.context k = some x) (late : Bool) : Billed k x x [] s (countLate late s) := by
  unfold countLate
  split
  · exact .of_parts h rfl (.of_ctp rfl) rfl rfl
  · exact .refl h

theorem lateTicket_billed (h : s.context k = some x) (key : Key) (epoch : Nat) :
    ∃ q b, Billed k x (debited q b x) [(.first key up down, .late)] s (lateTicket k up down key epoch s) := by
  unfold lateTicket
  extract_lets a
  have hvolume : volume (a.priced up down 0) = .first key up down := by
    rw [priced_volume, Volume.add, Volume.first]
    simp [a, Accumulator.opened, volume]
  clear_value a
  obtain ⟨q, b, hdebit⟩ := debit_billed h (a.entryCharge up down 0)
  obtain ⟨q', b', hhanded⟩ := handOver_billed hdebit.after (a.priced up down 0) .late
  rw [hvolume] at hhanded
  exact ⟨q', b', hdebit.step hhanded⟩

theorem openOrHold_billed (h : s.context k = some x) (tag : Nat) (key : Key) (epoch : Nat) (late : Bool) :
    ∃ q b z c, Billed k x (rebilled q b z (some c) x) [] s (openOrHold k up down tag key epoch late true s)
      ∧ volume c = .first key up down := by
  unfold openOrHold
  rw [Bool.true_or, if_pos rfl]
  have hopened := modContext_billed
    (f := fun x => { x with accumulator := some (Accumulator.opened key (s.tariffValues key) epoch s.shipTime late) }) h rfl rfl
  obtain ⟨q, b, z, c, hrated, hc⟩ := rateInto_billed (up := up) (down := down) hopened.after rfl epoch late
  refine ⟨q, b, z, c, hopened.step hrated, ?_⟩
  rw [hc, Volume.add, Volume.first]
  simp [Accumulator.opened, volume]

/-- Rating an entry that finds room, or goes into a record of its own key. -/
theorem rateEntry_billed (h : s.context k = some x) (tag : Nat) {room : Bool}
    (hroom : room = true ∨ x.accumulator.any (fun a => a.key == s.keyUnder x.homeGroup (s.ratingEpoch tag)) = true) :
    let r := rated (s.keyUnder x.homeGroup (s.ratingEpoch tag)) up down (olderEntry s tag x) (x.accumulator.map volume)
    ∃ q b z c, Billed k x (rebilled q b z (some c) x) r.1 s (rateEntry k up down tag room s) ∧ volume c = r.2 := by
  have hlate := countLate_billed h (s.epochFor tag).2
  unfold rateEntry
  rw [h]
  dsimp only
  rw [epochFor_fst]
  unfold olderEntry
  generalize s.keyUnder x.homeGroup (s.ratingEpoch tag) = key at hroom ⊢
  cases ha : x.accumulator with
  | none =>
    have hroom : room = true := by simpa [ha] using hroom
    subst hroom
    obtain ⟨q, b, z, c, hopened, hc⟩ := openOrHold_billed (up := up) (down := down) hlate.after tag key
      (s.ratingEpoch tag).number (s.epochFor tag).2
    exact ⟨q, b, z, c, hlate.step hopened, hc⟩
  | some a =>
    have hkey : (volume a).key = a.key := rfl
    simp only [Option.map_some, rated, hkey, Option.any_some]
    by_cases hown : a.key = key
    · rw [if_pos hown, if_pos hown]
      obtain ⟨q, b, z, c, hrated, hc⟩ := rateInto_billed (up := up) (down := down) hlate.after ha
        (s.ratingEpoch tag).number (s.epochFor tag).2
      exact ⟨q, b, z, c, hlate.step hrated, hc⟩
    · have hroom : room = true := by simpa [ha, hown] using hroom
      subst hroom
      rw [if_neg hown, if_neg hown]
      by_cases hage : s.epochAge (s.ratingEpoch tag).number < s.epochAge a.lastEpoch
      · simp only [hage, decide_true, if_true, Bool.true_or]
        obtain ⟨q, b, hticket⟩ := lateTicket_billed (up := up) (down := down) hlate.after key (s.ratingEpoch tag).number
        have hx : debited q b x = rebilled q b x.feeZone (some a) x := by rw [rebilled, ← ha]; rfl
        exact ⟨q, b, x.feeZone, a, hx ▸ hlate.step hticket, rfl⟩
      · simp only [hage, decide_false, Bool.false_eq_true, if_false]
        obtain ⟨q, b, hclosed⟩ := closeAccumulator_billed hlate.after (a.key.difference key)
        have hmade : closing (a.key.difference key) x = [(volume a, a.key.difference key)] := by simp [closing, ha]
        rw [hmade] at hclosed
        obtain ⟨q', b', z, c, hopened, hc⟩ := openOrHold_billed (up := up) (down := down) hclosed.after tag key
          (s.ratingEpoch tag).number (s.epochFor tag).2
        exact ⟨q', b', z, c, (hlate.step hclosed).trans hopened, hc⟩

/-- Held usage rated, and then absent (R165). -/
theorem rateHeld_billed (h : s.context k = some x) {held : Held} (hheld : x.held = some held) {room : Bool}
    (hroom : room = true ∨ x.accumulator.any (fun a => a.key == s.heldKey x held) = true) :
    let r := rated (s.heldKey x held) held.up held.down (olderEntry s held.epoch x) (x.accumulator.map volume)
    ∃ q b z c, Billed k x { rebilled q b z (some c) x with held := none } r.1 s (rateHeld k room s) ∧ volume c = r.2 := by
  unfold rateHeld
  rw [h, Option.bind_some, hheld]
  dsimp only
  obtain ⟨q, b, z, c, hrated, hc⟩ := rateEntry_billed (up := held.up) (down := held.down) h held.epoch hroom
  have hgone := modContext_billed (f := fun x => { x with held := none }) hrated.after rfl rfl
  exact ⟨q, b, z, c, hrated.last hgone, hc⟩

end

end Sys2Proof.Proofs
end

section
/-! SUPPORT. One context at the SBT's restart (R97, R108, R118, R132, R180): its registration cancelled, its held usage rated or
written off, its record closed, and the context freed. -/

namespace Sys2Proof.Proofs

open Sys2Proof.Machine

/-! ### What a frame keeps -/

/-- A state without what charging and freeing contexts may change. -/
def outsideCharging (s : State) : State :=
  { outsideHandling s with duc := { s.duc with cells := s.duc.cells.map fun x => { x with attached := 0 } } }

/-- Charging and freeing contexts: nothing outside them changes, conditions stay set and tickets stay queued. -/
structure Charges (s t : State) : Prop where
  outside : outsideCharging t = outsideCharging s
  conds : CondsKept s t
  tickets : s.tkq.tickets <+: t.tkq.tickets

namespace Charges

variable {s t u : State}

theorem refl (s : State) : Charges s s := ⟨rfl, .refl s, List.prefix_rfl⟩

theorem trans (h : Charges s t) (g : Charges t u) : Charges s u :=
  ⟨g.outside.trans h.outside, h.conds.trans g.conds, h.tickets.trans g.tickets⟩

theorem part {β : Type} (h : Charges s t) (f : State → β) (hf : ∀ x, f (outsideCharging x) = f x) : f t = f s := by
  rw [← hf t, h.outside, hf]

/-- Charging changes what `OnlyCharging` names, and nothing else. -/
theorem onlyCharging (h : Charges s t) : OnlyCharging s t := by
  refine ⟨?_, fun c => ?_⟩
  · have hfill (x : State) (hx : outsideCharging x = outsideCharging s) : x =
        { outsideCharging s with
          sbt := { (outsideCharging s).sbt with contexts := x.sbt.contexts }
          tkq := x.tkq
          rte := { (outsideCharging s).rte with attention := x.rte.attention, lateEntries := x.rte.lateEntries }
          rge := { (outsideCharging s).rge with queue := x.rge.queue, outstanding := x.rge.outstanding }
          duc := { (outsideCharging s).duc with cells := x.duc.cells, lamp := x.duc.lamp }
          ctp := { (outsideCharging s).ctp with conditions := x.ctp.conditions, noticePending := x.ctp.noticePending }
          ports := { (outsideCharging s).ports with deck := x.ports.deck } } := by
      rw [← hx]
      rfl
    exact hfill t h.outside
  · have hc := congrArg (fun x : State => x.cell c) h.outside
    have hcell (x : State) : (outsideCharging x).cell c = { x.cell c with attached := 0 } := Charged.outside_cell x c
    simp only [hcell] at hc
    exact congrArg (fun x : Cell => { x with attached := (t.cell c).attached }) hc

end Charges

section

variable {k : Nat} {x y : Context} {made : List (Volume × CloseReason)} {s t : State}

theorem Handled.part {β : Type} (h : Handled k x y made s t) (f : State → β) (hf : ∀ u, f (outsideHandling u) = f u) :
    f t = f s := by
  rw [← hf t, h.outside, hf]

theorem Handled.charges (h : Handled k x y made s t) : Charges s t := by
  obtain ⟨new, htickets, -⟩ := h.tickets
  have hduc : t.duc = s.duc := h.part State.duc fun _ => rfl
  refine ⟨?_, h.conds, new, htickets.symm⟩
  rw [outsideCharging, outsideCharging, h.outside, hduc]

/-- The rating of held usage reads the ring and the partner generations, which charging leaves. -/
theorem Charges.heldKey (h : Charges s t) (x : Context) (held : Held) : t.heldKey x held = s.heldKey x held :=
  h.part (fun u => u.heldKey x held) fun _ => rfl

theorem Charges.olderEntry (h : Charges s t) (tag : Nat) (x : Context) : olderEntry t tag x = olderEntry s tag x :=
  h.part (fun u => Proofs.olderEntry u tag x) fun _ => rfl

/-! ### The gate (R170) -/

/-- How many open records a context has. -/
def openRecords (x : Context) : Nat := x.accumulator.toList.length

/-- The open records are one context's and those of the others. -/
theorem openCount_eq (horder : ContextsInOrder s) (h : s.context k = some x) :
    s.openCount = openRecords x + ((Assoc.erase s.sbt.contexts k).filter fun e => e.2.accumulator.isSome).length := by
  have hperm := (perm_of_get horder h).filter fun e => e.2.accumulator.isSome
  rw [State.openCount, hperm.length_eq, openRecords]
  cases hx : x.accumulator <;> simp [hx]
  omega

theorem Handled.made_length (h : Handled k x y made s t) : t.tkq.tickets.length = s.tkq.tickets.length + made.length := by
  obtain ⟨new, htickets, hstubs⟩ := h.tickets
  have hlen : new.length = made.length := by simpa using congrArg List.length hstubs
  rw [htickets, List.length_append, hlen]

/-- Handling a context changes the gate count by the tickets made and by its own record. -/
theorem Handled.gateCount (h : Handled k x y made s t) (horder : ContextsInOrder s) :
    t.gateCount + openRecords x = s.gateCount + made.length + openRecords y := by
  have hs := openCount_eq horder h.before
  have ht := openCount_eq (h.order horder) h.after
  rw [h.others] at ht
  have hlen := h.made_length
  unfold State.gateCount
  omega

/-! ### Cancelling the registration (R132) -/

theorem setRegistration_billed (h : s.context k = some x) (r : Registration) :
    Billed k x { x with registration := r } [] s (setRegistration k r s) :=
  modContext_billed (f := fun x => { x with registration := r }) h rfl rfl

theorem cancelRegistration_billed (h : s.context k = some x) :
    ∃ r, Billed k x { x with registration := r } [] s (cancelRegistration k s) := by
  have hrge (q : List Nat) (o : List Outstanding) :
      Billed k x x [] s { s with rge := { s.rge with queue := q, outstanding := o } } :=
    .of_parts h rfl (.of_ctp rfl) rfl rfl
  have hcancelled (q : List Nat) (o : List Outstanding) : ∃ r, Billed k x { x with registration := r } [] s
      (setRegistration k .none { s with rge := { s.rge with queue := q, outstanding := o } }) :=
    ⟨.none, (hrge q o).step (setRegistration_billed (hrge q o).after .none)⟩
  unfold cancelRegistration
  split
  · exact hcancelled _ _
  · exact hcancelled _ _
  · exact ⟨x.registration, .refl h⟩

/-! ### Held usage at a restart (R180) -/

/-- Whether a context's held usage needs room at the gate: it would not go into an open record of its own key. -/
def needsRoom (s : State) (x : Context) : Bool :=
  x.held.any fun h => x.accumulator.all fun a => a.key != s.heldKey x h

/-- What the restart of a context makes: its held usage, unless it is written off, is rated, and what is then open is closed. -/
def restartBills (s : State) (off : Bool) (x : Context) : List (Volume × CloseReason) :=
  match x.held with
  | none => closing .restart x
  | some h =>
    if off then closing .restart x
    else
      (rated (s.heldKey x h) h.up h.down (olderEntry s h.epoch x) (x.accumulator.map volume)).1
        ++ [((rated (s.heldKey x h) h.up h.down (olderEntry s h.epoch x) (x.accumulator.map volume)).2, .restart)]

/-- The write-off record with held usage counted (R180). -/
def WriteOff.count (h : Held) (w : WriteOff) : WriteOff :=
  ⟨satAdd max16 w.contexts 1, satAdd maxBytes w.up h.up, satAdd maxBytes w.down h.down⟩

/-- What the restart of a context makes of the hold list and the write-off record. -/
def restartedRest (k : Nat) (off : Bool) (x : Context) (q : Tkq) : Tkq :=
  match x.held with
  | none => q
  | some h =>
    { q with
      holdList := q.holdList.filter (· != k)
      writeOff := if off then WriteOff.count h q.writeOff else q.writeOff }

/-- The last step of a restart's dealing with held usage: off the hold list, nothing held, and no BACKLOG. -/
def heldCleared (k : Nat) (s : State) : State :=
  modContext k (fun y => { y with held := none, restrictions := { y.restrictions with backlog := false } }) (leaveHoldList k s)

theorem heldCleared_handled (h : s.context k = some x) :
    Handled k x { x with held := none, restrictions := { x.restrictions with backlog := false } } [] s (heldCleared k s) := by
  have hleft : Handled k x x [] s (leaveHoldList k s) :=
    { outside := rfl
      conds := .of_ctp rfl
      others := rfl
      order := id
      before := h
      after := h
      sid := rfl
      cell := rfl
      tickets := ⟨[], (List.append_nil _).symm, rfl⟩ }
  exact hleft.trans (modContext_billed
    (f := fun y => { y with held := none, restrictions := { y.restrictions with backlog := false } }) hleft.after rfl rfl).toHandled

theorem heldCleared_rest (k : Nat) (s : State) :
    tkqRest (heldCleared k s) = { tkqRest s with holdList := s.tkq.holdList.filter (· != k) } := by
  unfold heldCleared
  rcases modContext_cases k (fun y => { y with held := none, restrictions := { y.restrictions with backlog := false } })
    (leaveHoldList k s) with ⟨-, h⟩ | ⟨x, -, h⟩ <;> rw [h] <;> rfl

theorem writeOff_handled (h : s.context k = some x) (held : Held) : Handled k x x [] s (writeOff held s) where
  outside := rfl
  conds := setCond_condsKept .ticketBacklog { s with tkq := { s.tkq with writeOff := WriteOff.count held s.tkq.writeOff } }
  others := rfl
  order := id
  before := h
  after := h
  sid := rfl
  cell := rfl
  tickets := ⟨[], (List.append_nil _).symm, rfl⟩

theorem restartHeld_some (h : s.context k = some x) {held : Held} (hheld : x.held = some held) :
    restartHeld k s =
      heldCleared k
        (if s.gateAdmits then rateHeld k true s else if s.ratesIntoOwn x held then rateHeld k false s else writeOff held s) := by
  unfold restartHeld
  rw [h]
  dsimp only
  rw [hheld]
  rfl

theorem ratesIntoOwn_eq (s : State) (x : Context) (held : Held) :
    s.ratesIntoOwn x held = x.accumulator.any fun a => a.key == s.heldKey x held := by
  unfold State.ratesIntoOwn
  rw [epochFor_fst]
  cases x.accumulator <;> rfl

/-- Held usage needs room exactly where it would not go into a record of its own key. -/
theorem needsRoom_eq (s : State) {x : Context} {held : Held} (hheld : x.held = some held) :
    needsRoom s x = !s.ratesIntoOwn x held := by
  rw [ratesIntoOwn_eq, needsRoom, hheld]
  cases x.accumulator <;> rfl

/-- Whether a context's held usage is written off at a restart: it needs room, and the gate has none. -/
def writtenOff (s : State) (x : Context) : Bool := needsRoom s x && !s.gateAdmits

/-- Held usage at a restart: the tickets then made, and after the closing of what is open, are the restart's. -/
theorem restartHeld_handled (h : s.context k = some x) :
    ∃ y made, Handled k x y made s (restartHeld k s) ∧ made ++ closing .restart y = restartBills s (writtenOff s x) x
      ∧ tkqRest (restartHeld k s) = restartedRest k (writtenOff s x) x (tkqRest s)
      ∧ (writtenOff s x = true → (restartHeld k s).condSet .ticketBacklog = true) := by
  cases hheld : x.held with
  | none =>
    have hsame : restartHeld k s = s := by
      unfold restartHeld
      rw [h]
      dsimp only
      rw [hheld]
    refine ⟨x, [], hsame.symm ▸ (Billed.refl h).toHandled, ?_, ?_, fun hoff => ?_⟩
    · simp [restartBills, hheld]
    · simp [restartedRest, hheld, hsame]
    · simp [writtenOff, needsRoom, hheld] at hoff
  | some held =>
    have hrated {room : Bool} (hoff : writtenOff s x = false)
        (hroom : room = true ∨ x.accumulator.any (fun a => a.key == s.heldKey x held) = true) :
        ∃ y made, Handled k x y made s (heldCleared k (rateHeld k room s))
          ∧ made ++ closing .restart y = restartBills s (writtenOff s x) x
          ∧ tkqRest (heldCleared k (rateHeld k room s)) = restartedRest k (writtenOff s x) x (tkqRest s)
          ∧ (writtenOff s x = true → (heldCleared k (rateHeld k room s)).condSet .ticketBacklog = true) := by
      obtain ⟨q, b, z, c, hbilled, hc⟩ := rateHeld_billed h hheld hroom
      have hlist : (rateHeld k room s).tkq.holdList = s.tkq.holdList := by
        show (tkqRest _).holdList = (tkqRest _).holdList
        rw [hbilled.rest]
      refine ⟨_, _, hbilled.toHandled.trans (heldCleared_handled hbilled.after), ?_, ?_, fun h => by simp [hoff] at h⟩
      · rw [List.append_nil, hoff]
        simp only [restartBills, hheld, closing, rebilled, Option.toList_some, List.map_cons, List.map_nil, hc,
          Bool.false_eq_true, if_false]
      · rw [heldCleared_rest, hbilled.rest, hlist, hoff]
        simp only [restartedRest, hheld, Bool.false_eq_true, if_false]
        rfl
    rw [restartHeld_some h hheld]
    by_cases hgate : s.gateAdmits = true
    · rw [if_pos hgate]
      exact hrated (by simp [writtenOff, hgate]) (.inl rfl)
    · rw [if_neg hgate]
      by_cases hown : s.ratesIntoOwn x held = true
      · rw [if_pos hown]
        exact hrated (by simp [writtenOff, needsRoom_eq s hheld, hown]) (.inr (by rwa [ratesIntoOwn_eq] at hown))
      · rw [if_neg hown]
        have hoff : writtenOff s x = true := by simp [writtenOff, needsRoom_eq s hheld, hown, hgate]
        have hwritten := writeOff_handled h held
        have hcleared := heldCleared_handled hwritten.after
        refine ⟨_, _, hwritten.trans hcleared, ?_, ?_, fun _ => hcleared.conds _ (setCond_condSet_self ..)⟩
        · simp only [List.append_nil, List.nil_append, restartBills, hheld, hoff, if_true, closing]
        · rw [heldCleared_rest, hoff]
          simp only [restartedRest, hheld, if_true]
          rfl

end

end Sys2Proof.Proofs
end

section
/-! SUPPORT. The SBT's restart (R118, R180): the contexts in use freed one by one in rising order, what is written off, the tickets
made for each context, the hold list and the attached counts. -/

namespace Sys2Proof.Proofs

open Sys2Proof.Machine

section

variable {k : Nat} {x : Context} {s t : State}

/-! ### Freeing (R97, R108) -/

theorem freeContext_charges (k : Nat) (s : State) : Charges s (freeContext k s) := by
  unfold freeContext
  split
  next => exact .refl s
  next x _ =>
    have hcells := congrArg (fun u : State => u.duc) (lowerAttached_charged x.cell s).outside
    refine ⟨?_, .of_ctp rfl, List.prefix_rfl⟩
    exact congrArg (fun d : Duc => { outsideHandling s with duc := d }) hcells

theorem freeContext_contexts (h : s.context k = some x) :
    (freeContext k s).sbt.contexts = Assoc.erase s.sbt.contexts k := by
  rw [freeContext, h]
  rfl

theorem freeContext_tkq (k : Nat) (s : State) : (freeContext k s).tkq = s.tkq := by
  unfold freeContext
  split <;> rfl

theorem freeContext_attached (h : s.context k = some x) (d : CellId) :
    ((freeContext k s).cell d).attached = (s.cell d).attached - if d = x.cell then 1 else 0 := by
  have hcell : (freeContext k s).cell d = (lowerAttached x.cell s).cell d := by
    rw [freeContext, h]
    rfl
  rw [hcell, lowerAttached, modCell, setCell_cell]
  split
  next hd => rw [hd]
  next => rfl

/-! ### The restart of one context -/

theorem needsRoom_congr (h : Charges s t) (x : Context) : needsRoom t x = needsRoom s x := by
  simp only [needsRoom, h.heldKey]

theorem restartBills_congr (h : Charges s t) (off : Bool) (x : Context) : restartBills t off x = restartBills s off x := by
  simp only [restartBills, h.heldKey, h.olderEntry]

/-- Beside the tickets that close what is open, a restart makes one for held usage that finds room. -/
theorem restartBills_length (s : State) (off : Bool) (x : Context) :
    (restartBills s off x).length = openRecords x + if needsRoom s x = true ∧ off = false then 1 else 0 := by
  unfold restartBills needsRoom openRecords closing
  cases x.held with
  | none => simp
  | some h =>
    cases off with
    | true => simp
    | false =>
      cases x.accumulator with
      | none => simp [rated]
      | some a =>
        by_cases hkey : a.key = s.heldKey x h
        · simp [rated, volume, hkey]
        · cases hold : olderEntry s h.epoch x <;> simp [rated, volume, hkey, hold]

/-- Context `k` restarted and freed, its held usage written off or not. -/
structure ContextRestarted (off : Bool) (k : Nat) (x : Context) (s t : State) : Prop where
  charges : Charges s t
  contexts : t.sbt.contexts = Assoc.erase s.sbt.contexts k
  attached (d : CellId) : (t.cell d).attached = (s.cell d).attached - if d = x.cell then 1 else 0
  tickets : ∃ new, t.tkq.tickets = s.tkq.tickets ++ new ∧ new.map stub = (restartBills s off x).map fun m => (k, x.sid, m)
  rest : tkqRest t = restartedRest k off x (tkqRest s)
  backlog : off = true → t.condSet .ticketBacklog = true

theorem restartContext_restarted (h : s.context k = some x) :
    ∃ off, (ContextsInOrder s → off = writtenOff s x) ∧ ContextRestarted off k x s (restartContext k s) := by
  obtain ⟨r, hcancelled⟩ := cancelRegistration_billed h
  have hsame := hcancelled.charges
  obtain ⟨y, made, hheld, hmade, hrest, hbacklog⟩ := restartHeld_handled hcancelled.after
  obtain ⟨q, b, hclosed⟩ := closeAccumulator_billed hheld.after .restart
  have hall := (hcancelled.toHandled.trans hheld).trans hclosed.toHandled
  refine ⟨_, fun horder => ?_, (hall.charges).trans (freeContext_charges k _), ?_, fun d => ?_, ?_, ?_,
    fun hoff => (freeContext_charges k _).conds _ (hclosed.conds _ (hbacklog hoff))⟩
  · have hgate := hcancelled.gateCount horder
    have hopen : openRecords { x with registration := r } = openRecords x := rfl
    have hgate : (cancelRegistration k s).gateCount = s.gateCount := by
      simp only [List.length_nil] at hgate
      omega
    rw [writtenOff, needsRoom_congr hsame, State.gateAdmits, hgate]
    rfl
  · exact (freeContext_contexts hall.after).trans hall.others
  · have hcell : (closeAccumulator k .restart (restartHeld k (cancelRegistration k s))).cell d = s.cell d :=
      hall.part (fun u => u.cell d) fun _ => rfl
    refine (freeContext_attached hall.after d).trans ?_
    rw [hcell, hall.cell]
  · obtain ⟨new, htickets, hstubs⟩ := hall.tickets
    refine ⟨new, (congrArg Tkq.tickets (freeContext_tkq ..)).trans htickets, ?_⟩
    rw [hstubs, List.nil_append, hmade, restartBills_congr hsame]
    rfl
  · show tkqRest (freeContext k _) = _
    rw [tkqRest, freeContext_tkq, ← tkqRest, hclosed.rest, hrest, hcancelled.rest]
    rfl

/-- The restart of a context that is not in use does nothing. -/
theorem restartContext_free (h : s.context k = none) : restartContext k s = s := by
  have hcancel : cancelRegistration k s = s := by simp only [cancelRegistration, h, Option.map_none]
  have hheld : restartHeld k s = s := by simp only [restartHeld, h]
  have hclose : closeAccumulator k .restart s = s := by simp only [closeAccumulator, h, Option.bind_none]
  rw [restartContext, hcancel, hheld, hclose, freeContext, h]

/-- The gate count after a context's restart: one more where its held usage took room. -/
theorem ContextRestarted.gateCount {off : Bool} (h : ContextRestarted off k x s t) (horder : ContextsInOrder s)
    (hx : s.context k = some x) :
    t.gateCount = s.gateCount + if needsRoom s x = true ∧ off = false then 1 else 0 := by
  obtain ⟨new, htickets, hstubs⟩ := h.tickets
  have hlen : new.length = (restartBills s off x).length := by simpa using congrArg List.length hstubs
  have hopen := openCount_eq horder hx
  have hbills := restartBills_length s off x
  unfold State.gateCount
  rw [htickets, List.length_append, State.openCount, h.contexts]
  omega

end

/-! ### Every context (R118) -/

theorem restartContext_charges (k : Nat) (s : State) : Charges s (restartContext k s) := by
  cases h : s.context k with
  | none => exact (restartContext_free h).symm ▸ .refl s
  | some x =>
    obtain ⟨off, -, hrestarted⟩ := restartContext_restarted h
    exact hrestarted.charges

theorem sbtRestartEffect_charges (s : State) : Charges s (sbtRestartEffect s) :=
  forEach_keeps (property := Charges s) (fun k _ t ht => ht.trans (restartContext_charges k t)) (.refl s)

theorem erase_of_get_none {α : Type} {l : List (Nat × α)} {k : Nat} (h : Assoc.get l k = none) : Assoc.erase l k = l := by
  refine List.filter_eq_self.mpr ?_
  induction l with
  | nil => simp
  | cons e t ih =>
    obtain ⟨j, w⟩ := e
    by_cases hj : j = k
    · simp [Assoc.get, hj] at h
    · have ht : Assoc.get t k = none := by simpa [Assoc.get, hj] using h
      simpa [hj] using ih ht

theorem restartContext_contexts (k : Nat) (s : State) :
    (restartContext k s).sbt.contexts = Assoc.erase s.sbt.contexts k := by
  cases h : s.context k with
  | none => rw [restartContext_free h, erase_of_get_none h]
  | some x =>
    obtain ⟨off, -, hrestarted⟩ := restartContext_restarted h
    exact hrestarted.contexts

/-- A loop of restarts leaves the contexts that it does not name. -/
theorem forEach_restartContext_contexts (ks : List Nat) (s : State) :
    (forEach ks restartContext s).sbt.contexts = s.sbt.contexts.filter fun e => !ks.contains e.1 := by
  induction ks generalizing s with
  | nil => exact (List.filter_eq_self.mpr fun _ _ => rfl).symm
  | cons k ks ih =>
    rw [forEach_cons, ih, restartContext_contexts, Assoc.erase, List.filter_filter]
    refine List.filter_congr fun e _ => ?_
    rw [List.contains_cons, Bool.not_or, Bool.and_comm]
    rfl

/-- No context is in use after the SBT's restart. -/
theorem sbtRestartEffect_contexts (s : State) : (sbtRestartEffect s).sbt.contexts = [] := by
  rw [sbtRestartEffect, forEach_restartContext_contexts]
  refine List.filter_eq_nil_iff.mpr fun e he => ?_
  simpa [State.contextIndices] using ⟨e.2, he⟩

theorem sbtRestartEffect_sbt (s : State) : (sbtRestartEffect s).sbt = { s.sbt with contexts := [] } := by
  have hpatterns := (sbtRestartEffect_charges s).part (fun u => u.sbt.patterns) fun _ => rfl
  have hcontexts := sbtRestartEffect_contexts s
  calc (sbtRestartEffect s).sbt = ⟨(sbtRestartEffect s).sbt.contexts, (sbtRestartEffect s).sbt.patterns⟩ := rfl
    _ = { s.sbt with contexts := [] } := by rw [hpatterns, hcontexts]

/-- Where the contexts stand in order, the SBT's restart is that of the first, and then of the others. -/
theorem sbtRestartEffect_first {s : State} {k : Nat} {x : Context} {rest : List (Nat × Context)}
    (horder : ContextsInOrder s) (h : s.sbt.contexts = (k, x) :: rest) :
    ∃ t, ContextRestarted (writtenOff s x) k x s t ∧ s.context k = some x ∧ t.sbt.contexts = rest
      ∧ sbtRestartEffect s = sbtRestartEffect t := by
  have hget : s.context k = some x := by simp [State.context, h, Assoc.get]
  obtain ⟨off, hoff, hrestarted⟩ := restartContext_restarted hget
  obtain rfl := hoff horder
  have hrest : (restartContext k s).sbt.contexts = rest := by
    rw [ContextsInOrder, h] at horder
    obtain ⟨hlt, -⟩ := List.pairwise_cons.mp horder
    have hne : Assoc.erase rest k = rest := List.filter_eq_self.mpr fun e he => by simpa using (hlt e he).ne'
    rw [hrestarted.contexts, h, ← hne]
    simp [Assoc.erase]
  refine ⟨_, hrestarted, hget, hrest, ?_⟩
  rw [sbtRestartEffect, sbtRestartEffect, State.contextIndices, State.contextIndices, h, hrest]
  rfl

/-- What holds of every state without contexts, and of a state where it holds after the first context's restart, holds of every
state whose contexts stand in order. -/
theorem restart_induction {property : State → Prop} (none : ∀ s, s.sbt.contexts = [] → property s)
    (first : ∀ s t k x, ContextsInOrder s → s.sbt.contexts = (k, x) :: t.sbt.contexts → s.context k = some x →
      ContextRestarted (writtenOff s x) k x s t → sbtRestartEffect s = sbtRestartEffect t → property t → property s)
    {s : State} (horder : ContextsInOrder s) : property s := by
  generalize hl : s.sbt.contexts = l
  induction l generalizing s with
  | nil => exact none s hl
  | cons e rest ih =>
    obtain ⟨k, x⟩ := e
    obtain ⟨t, hrestarted, hget, hrest, heffect⟩ := sbtRestartEffect_first horder hl
    have ht : ContextsInOrder t := by
      rw [ContextsInOrder, hl] at horder
      rw [ContextsInOrder, hrest]
      exact (List.pairwise_cons.mp horder).2
    exact first s t k x horder (by rw [hl, hrest]) hget hrestarted heffect (ih ht hrest)

theorem sbtRestartEffect_of_nil {s : State} (h : s.sbt.contexts = []) : sbtRestartEffect s = s := by
  rw [sbtRestartEffect, State.contextIndices, h]
  rfl

/-! ### Attached counts and the hold list -/

theorem sbtRestartEffect_attached {s : State} (h : AttachedLaw s) (d : CellId) : ((sbtRestartEffect s).cell d).attached = 0 := by
  obtain ⟨horder, hcount⟩ := h
  refine restart_induction (property := fun s =>
    (s.cell d).attached = (s.sbt.contexts.filter fun e => e.2.cell == d).length →
      ((sbtRestartEffect s).cell d).attached = 0) (fun s hnil hs => ?_) (fun s t k x _ hcons _ hrestarted heffect ih hs => ?_)
    horder (hcount d)
  · rw [sbtRestartEffect_of_nil hnil, hs, hnil]
    rfl
  · rw [heffect]
    refine ih ?_
    rw [hrestarted.attached, hs, hcons]
    by_cases hd : x.cell = d
    · simp [hd]
    · simp [hd, Ne.symm hd]

/-- The contexts off the hold list after the restart are those that had held usage. -/
theorem sbtRestartEffect_holdList {s : State} (horder : ContextsInOrder s) :
    (sbtRestartEffect s).tkq.holdList
      = s.tkq.holdList.filter fun j => !s.sbt.contexts.any fun e => e.1 == j && e.2.held.isSome := by
  refine restart_induction (property := fun s => (sbtRestartEffect s).tkq.holdList
      = s.tkq.holdList.filter fun j => !s.sbt.contexts.any fun e => e.1 == j && e.2.held.isSome)
    (fun s hnil => ?_) (fun s t k x _ hcons _ hrestarted heffect ih => ?_) horder
  · rw [sbtRestartEffect_of_nil hnil, hnil]
    exact (List.filter_eq_self.mpr fun _ _ => rfl).symm
  · have hrest : t.tkq.holdList = (restartedRest k (writtenOff s x) x (tkqRest s)).holdList := by
      rw [← hrestarted.rest]
      rfl
    rw [heffect, ih, hrest, hcons, restartedRest]
    cases hheld : x.held with
    | none => simp [tkqRest, hheld]
    | some h =>
      simp only [tkqRest, List.filter_filter, List.any_cons, hheld, Option.isSome_some, Bool.and_true, Bool.not_or]
      refine List.filter_congr fun j _ => ?_
      rw [Bool.and_comm, Bool.beq_comm]
      rfl

/-! ### The write-off (R180) -/

/-- The contexts whose held usage is written off. -/
def offList (s : State) : List (Nat × Context) := s.needRoom.drop (2048 - s.gateCount)

theorem needRoom_eq (s : State) : s.needRoom = s.sbt.contexts.filter fun e => needsRoom s e.2 := rfl

/-- The first context is written off or not, and the others as after its restart. -/
theorem offList_first {s t : State} {k : Nat} {x : Context} (horder : ContextsInOrder s)
    (hcons : s.sbt.contexts = (k, x) :: t.sbt.contexts) (hget : s.context k = some x)
    (h : ContextRestarted (writtenOff s x) k x s t) :
    offList s = if writtenOff s x = true then (k, x) :: offList t else offList t := by
  have hgate := h.gateCount horder hget
  have hneed : t.needRoom = t.sbt.contexts.filter fun e => needsRoom s e.2 := by
    simp only [needRoom_eq, needsRoom_congr h.charges]
  unfold offList
  rw [hneed, needRoom_eq, hcons, hgate, writtenOff, State.gateAdmits]
  cases hx : needsRoom s x with
  | false => simp [hx]
  | true =>
    by_cases hlt : s.gateCount < 2048
    · have hsub : 2048 - s.gateCount = 2048 - (s.gateCount + 1) + 1 := by omega
      simp [hx, hlt, hsub]
    · have hfull : 2048 - s.gateCount = 0 := by omega
      simp [hx, hlt, hfull]

/-- The write-off record counts each context written off in turn. -/
theorem sbtRestartEffect_writeOff {s : State} (horder : ContextsInOrder s) :
    (sbtRestartEffect s).tkq.writeOff
      = (offList s).foldl (fun w e => e.2.held.elim w fun h => WriteOff.count h w) s.tkq.writeOff := by
  refine restart_induction (property := fun s => (sbtRestartEffect s).tkq.writeOff
      = (offList s).foldl (fun w e => e.2.held.elim w fun h => WriteOff.count h w) s.tkq.writeOff)
    (fun s hnil => ?_) (fun s t k x horder hcons hget hrestarted heffect ih => ?_) horder
  · rw [sbtRestartEffect_of_nil hnil, offList, needRoom_eq, hnil]
    simp
  · have hrest : t.tkq.writeOff = (restartedRest k (writtenOff s x) x (tkqRest s)).writeOff := by
      rw [← hrestarted.rest]
      rfl
    rw [heffect, ih, hrest, offList_first horder hcons hget hrestarted, restartedRest]
    cases hoff : writtenOff s x <;> cases hheld : x.held <;> simp [tkqRest, hheld]

end Sys2Proof.Proofs
end

section
/-! SUPPORT. The write-off of a restart in closed form, and the tickets made for each context (R180). -/

namespace Sys2Proof.Proofs

open Sys2Proof.Machine

/-! ### The write-off record -/

/-- The bytes of held usage, summed over contexts. -/
def heldSum (f : Held → Nat) (l : List (Nat × Context)) : Nat := (l.map fun e => (e.2.held.map f).getD 0).sum

/-- Counts that saturate at each turn come to the saturated total. -/
theorem foldl_count {l : List (Nat × Context)} (hne : l ≠ []) (hheld : ∀ e ∈ l, e.2.held.isSome = true) (w : WriteOff) :
    l.foldl (fun w e => e.2.held.elim w fun h => WriteOff.count h w) w
      = ⟨min 65535 (w.contexts + l.length), min maxBytes (w.up + heldSum Held.up l), min maxBytes (w.down + heldSum Held.down l)⟩ := by
  induction l generalizing w with
  | nil => exact absurd rfl hne
  | cons e rest ih =>
    obtain ⟨h, hh⟩ := Option.isSome_iff_exists.mp (hheld e List.mem_cons_self)
    rw [List.foldl_cons, hh, Option.elim_some]
    by_cases hrest : rest = []
    · simp [hrest, WriteOff.count, satAdd, max16, heldSum, hh]
    · rw [ih hrest fun f hf => hheld f (List.mem_cons_of_mem _ hf)]
      simp only [WriteOff.count, satAdd, max16, heldSum, List.map_cons, List.sum_cons, List.length_cons, hh, Option.map_some,
        Option.getD_some, WriteOff.mk.injEq]
      omega

theorem held_of_mem_offList {s : State} {e : Nat × Context} (h : e ∈ offList s) : e.2.held.isSome = true := by
  have hneed := (List.mem_filter.mp (List.mem_of_mem_drop h)).2
  cases hheld : e.2.held with
  | none => simp [hheld] at hneed
  | some held => rfl

/-- Where some held usage is written off, TICKET_BACKLOG is set. -/
theorem sbtRestartEffect_backlog {s : State} (horder : ContextsInOrder s) (h : offList s ≠ []) :
    (sbtRestartEffect s).condSet .ticketBacklog = true := by
  refine restart_induction (property := fun s => offList s ≠ [] → (sbtRestartEffect s).condSet .ticketBacklog = true)
    (fun s hnil h => ?_) (fun s t k x horder hcons hget hrestarted heffect ih h => ?_) horder h
  · rw [offList, needRoom_eq, hnil] at h
    simp at h
  · rw [heffect]
    rw [offList_first horder hcons hget hrestarted] at h
    by_cases hoff : writtenOff s x = true
    · exact (sbtRestartEffect_charges t).conds _ (hrestarted.backlog hoff)
    · exact ih (by simpa [hoff] using h)

/-! ### The tickets -/

/-- What the restart makes for one of the contexts in use. -/
def contextStubs (s : State) (e : Nat × Context) : List (Nat × Sid × Volume × CloseReason) :=
  (restartBills s (decide (e ∈ offList s)) e.2).map fun m => (e.1, e.2.sid, m)

theorem mem_of_mem_offList {s : State} {e : Nat × Context} (h : e ∈ offList s) : e ∈ s.sbt.contexts :=
  (List.mem_filter.mp (List.mem_of_mem_drop h)).1

/-- The tickets of the restart are those of each context, in rising order. -/
theorem sbtRestartEffect_tickets {s : State} (horder : ContextsInOrder s) :
    ∃ new, (sbtRestartEffect s).tkq.tickets = s.tkq.tickets ++ new
      ∧ new.map stub = s.sbt.contexts.flatMap (contextStubs s) := by
  refine restart_induction (property := fun s => ∃ new, (sbtRestartEffect s).tkq.tickets = s.tkq.tickets ++ new
      ∧ new.map stub = s.sbt.contexts.flatMap (contextStubs s))
    (fun s hnil => ?_) (fun s t k x horder hcons hget hrestarted heffect ih => ?_) horder
  · exact ⟨[], by rw [sbtRestartEffect_of_nil hnil, List.append_nil], by rw [hnil]; rfl⟩
  · obtain ⟨first, hfirst, hfirstStubs⟩ := hrestarted.tickets
    obtain ⟨others, hothers, hothersStubs⟩ := ih
    have hlt : ∀ e ∈ t.sbt.contexts, k < e.1 := by
      rw [ContextsInOrder, hcons] at horder
      exact (List.pairwise_cons.mp horder).1
    have hlist := offList_first horder hcons hget hrestarted
    have hhead : decide ((k, x) ∈ offList s) = writtenOff s x := by
      have hnot : (k, x) ∉ offList t := fun h => lt_irrefl k (hlt _ (mem_of_mem_offList h))
      cases hoff : writtenOff s x <;> simp [hlist, hoff, hnot]
    have htail : ∀ e ∈ t.sbt.contexts, contextStubs t e = contextStubs s e := fun e he => by
      have hne : e ≠ (k, x) := fun h => lt_irrefl k (by simpa [h] using hlt e he)
      have hmem : decide (e ∈ offList t) = decide (e ∈ offList s) := by
        cases hoff : writtenOff s x <;> simp [hlist, hoff, hne]
      rw [contextStubs, contextStubs, hmem, restartBills_congr hrestarted.charges]
    refine ⟨first ++ others, by rw [heffect, hothers, hfirst, List.append_assoc], ?_⟩
    rw [List.map_append, hfirstStubs, hothersStubs, hcons, List.flatMap_cons, List.flatMap_congr htail, contextStubs, hhead]

/-- The tickets that a state holds since another for a context and its subscriber. -/
def ticketsFor (s u : State) (e : Nat × Context) : List Ticket :=
  (u.tkq.tickets.drop s.tkq.tickets.length).filter fun v => v.ctx == e.1 && v.sid == e.2.sid

/-- Where only one entry's part passes a filter, and all of it, that part is what is left. -/
theorem filter_flatMap_of_key {α β : Type} {l : List (Nat × α)} (h : l.Pairwise (fun a b => a.1 < b.1)) {e : Nat × α}
    (he : e ∈ l) {f : Nat × α → List β} {p : β → Bool} (hown : ∀ b ∈ f e, p b = true)
    (hother : ∀ d, d.1 ≠ e.1 → ∀ b ∈ f d, p b = false) : (l.flatMap f).filter p = f e := by
  have hnone (d : Nat × α) (hd : d.1 ≠ e.1) : (f d).filter p = [] := List.filter_eq_nil_iff.mpr fun b hb => by simp [hother d hd b hb]
  have hnil (m : List (Nat × α)) (hm : ∀ d ∈ m, d.1 ≠ e.1) : (m.flatMap f).filter p = [] := by
    rw [List.filter_flatMap]
    exact List.flatMap_eq_nil_iff.mpr fun d hd => hnone d (hm d hd)
  obtain ⟨front, back, rfl⟩ := List.append_of_mem he
  obtain ⟨-, hback, hfront⟩ := List.pairwise_append.mp h
  have hlt := (List.pairwise_cons.mp hback).1
  rw [List.flatMap_append, List.flatMap_cons, List.filter_append, List.filter_append,
    hnil front fun d hd => (hfront d hd e List.mem_cons_self).ne, hnil back fun d hd => (hlt d hd).ne',
    List.filter_eq_self.mpr hown, List.nil_append, List.append_nil]

/-- The tickets of one context. -/
theorem ticketsFor_stubs {s : State} (horder : ContextsInOrder s) {e : Nat × Context} (he : e ∈ s.sbt.contexts) :
    (ticketsFor s (sbtRestartEffect s) e).map stub = contextStubs s e := by
  obtain ⟨new, htickets, hstubs⟩ := sbtRestartEffect_tickets horder
  have hfilter : (ticketsFor s (sbtRestartEffect s) e).map stub
      = (new.map stub).filter fun q => q.1 == e.1 && q.2.1 == e.2.sid := by
    rw [ticketsFor, htickets, List.drop_left, List.filter_map]
    rfl
  rw [hfilter, hstubs]
  refine filter_flatMap_of_key horder he (fun q hq => ?_) fun d hd q hq => ?_
  · obtain ⟨m, -, rfl⟩ := List.mem_map.mp hq
    simp
  · obtain ⟨m, -, rfl⟩ := List.mem_map.mp hq
    simp [hd]

end Sys2Proof.Proofs
end

section
/-! SUPPORT. The restarts of the DUC and the EPC, and the JOINs held meanwhile (R76, R150). -/

namespace Sys2Proof.Proofs

open Sys2Proof.Machine

/-! ### The cells at the DUC's restart (R76) -/

/-- A cell record but for its grant. -/
def ungranted (x : Cell) : Cell := { x with grant := 0 }

theorem ungranted_state (x : Cell) : (ungranted x).state = x.state := rfl

/-- What the DUC's restart makes of a cell record but for its grant. -/
def afterRestart (x : Cell) : Cell := if x.state = .disabled then ungranted x else ungranted (Cell.restarted x)

theorem afterRestart_ungranted (x : Cell) : afterRestart (ungranted x) = afterRestart x := rfl

theorem afterRestart_afterRestart (x : Cell) : afterRestart (afterRestart x) = afterRestart x := by
  by_cases h : x.state = .disabled
  · have hx : afterRestart x = ungranted x := if_pos h
    rw [hx]
    exact hx
  · have hx : afterRestart x = ungranted (Cell.restarted x) := if_neg h
    rw [hx]
    exact if_neg (by simp [ungranted, Cell.restarted, Cell.dropped])

theorem leaveServing_ungranted (c d : CellId) (s : State) :
    ungranted ((leaveServing c s).cell d) = ungranted (s.cell d) := by
  simp only [leaveServing, recompute_cell, clearGrant, modCell, setCell_cell]
  split
  next h => rw [h]; rfl
  next => rfl

/-- One cell's restart. -/
theorem restartCell_ungranted (c d : CellId) (s : State) :
    ungranted ((restartCell c s).cell d) = if d = c then afterRestart (s.cell d) else ungranted (s.cell d) := by
  have hmod : ungranted ((modCell c Cell.restarted (emitDeck c .rejoin s)).cell d)
      = if d = c then ungranted (Cell.restarted (s.cell d)) else ungranted (s.cell d) := by
    rw [modCell, setCell_cell]
    split
    next h => rw [h]; rfl
    next => rfl
  unfold restartCell
  split
  next h =>
    split
    next hd => rw [afterRestart, if_pos (hd ▸ h)]
    next => rfl
  next h =>
    have hcell : (if d = c then afterRestart (s.cell d) else ungranted (s.cell d))
        = if d = c then ungranted (Cell.restarted (s.cell d)) else ungranted (s.cell d) := by
      split
      next hd => exact if_neg (hd ▸ h)
      next => rfl
    rw [hcell, ← hmod]
    dsimp only
    split
    · exact leaveServing_ungranted ..
    · rfl

/-- The restart of a list of cells. -/
theorem forEach_restartCell_ungranted (cells : List CellId) (d : CellId) (s : State) :
    ungranted ((forEach cells restartCell s).cell d)
      = if d ∈ cells then afterRestart (s.cell d) else ungranted (s.cell d) := by
  induction cells generalizing s with
  | nil => simp
  | cons c rest ih =>
    have hfirst := restartCell_ungranted c d s
    rw [forEach_cons, ih, ← afterRestart_ungranted, hfirst]
    by_cases hd : d = c
    · simp [hd, afterRestart_afterRestart]
    · simp [hd, afterRestart_ungranted]

theorem ducRestartEffect_ungranted (c : CellId) (s : State) :
    ungranted ((ducRestartEffect s).cell c) = afterRestart (s.cell c) := by
  rw [ducRestartEffect, forEach_restartCell_ungranted, if_pos (mem_allCells c)]
  rfl

/-- Under GrantLaw a cell outside SERVING is known by its record but for the grant. -/
theorem cell_of_ungranted {s : State} (h : GrantLaw s) {c : CellId} (hs : (s.cell c).state ≠ .serving) :
    s.cell c = ungranted (s.cell c) := by
  obtain ⟨-, -, hzero, -⟩ := h
  have := hzero c hs
  rw [ungranted, ← this]

/-- After the DUC's restart no cell holds a grant, and a DISABLED one is as it was. -/
theorem ducRestartEffect_cell {s : State} (h : GrantLaw s) (c : CellId) :
    (ducRestartEffect s).cell c = afterRestart (s.cell c) := by
  have hlaw := (ducRestartEffect_kept s).grants h
  have hcell := ducRestartEffect_ungranted c s
  have hserving : (afterRestart (s.cell c)).state ≠ .serving := by
    unfold afterRestart
    split
    next hs => simp [ungranted, hs]
    next => simp [ungranted, Cell.restarted, Cell.dropped]
  have hstate : ((ducRestartEffect s).cell c).state ≠ .serving := by
    rwa [← ungranted_state, hcell]
  exact (cell_of_ungranted hlaw hstate).trans hcell

/-! ### What the DUC's restart leaves -/

/-- A state without what a change of cells and their grants may change. -/
def outsideCells (s : State) : State :=
  { s with
    cap := { s.cap with pointer := 0, demandChanged := false }
    duc := { s.duc with cells := State.reset.duc.cells, lamp := State.reset.duc.lamp }
    ports := { s.ports with deck := [] } }

theorem recompute_outsideCells (s : State) : outsideCells (recompute s) = outsideCells s := by
  simp only [recompute_eq, storeGrants, outsideCells]

theorem refreshLamp_outsideCells (s : State) : outsideCells (refreshLamp s) = outsideCells s := by
  unfold refreshLamp
  split <;> rfl

theorem restartCell_outsideCells (c : CellId) (s : State) : outsideCells (restartCell c s) = outsideCells s := by
  unfold restartCell
  dsimp only
  split
  · rfl
  · split
    · exact recompute_outsideCells _
    · rfl

theorem ducRestartEffect_outsideCells (s : State) :
    outsideCells (ducRestartEffect s) = outsideCells (setRetuneList [] s) :=
  forEach_keeps (property := fun t => outsideCells t = outsideCells (setRetuneList [] s))
    (fun c _ t ht => (restartCell_outsideCells c t).trans ht) rfl

theorem part_of_outsideCells {β : Type} {s t : State} (h : outsideCells t = outsideCells s) (f : State → β)
    (hf : ∀ x, f (outsideCells x) = f x) : f t = f s := by
  rw [← hf t, h, hf]

/-- A state that differs from another in cells and grants, written out. -/
theorem eq_of_outsideCells {s t : State} (h : outsideCells t = outsideCells s) :
    t =
      { s with
        duc := { s.duc with cells := t.duc.cells, lamp := t.duc.lamp }
        cap := { s.cap with pointer := t.cap.pointer, demandChanged := t.cap.demandChanged }
        ports := { s.ports with deck := t.ports.deck } } := by
  have hfill (x : State) (hx : outsideCells x = outsideCells s) : x =
      { outsideCells s with
        duc := { (outsideCells s).duc with cells := x.duc.cells, lamp := x.duc.lamp }
        cap := { (outsideCells s).cap with pointer := x.cap.pointer, demandChanged := x.cap.demandChanged }
        ports := { (outsideCells s).ports with deck := x.ports.deck } } := by
    rw [← hx]
    rfl
  exact hfill t h

/-! ### The REJOIN frames -/

theorem restartCell_beside (c : CellId) (s : State) : Beside s (restartCell c s) := by
  have hrejoin : Beside s (modCell c Cell.restarted (emitDeck c .rejoin s)) :=
    .trans (.of_charged (emitDeck_settled c .rejoin s).toCharged) (modCell_beside ..)
  exact .ite (fun _ => .refl s) fun _ =>
    .ite (fun _ => (hrejoin.trans (modCell_beside ..)).trans (recompute_beside _)) fun _ => hrejoin

theorem forEach_restartCell_beside (cells : List CellId) (s : State) : Beside s (forEach cells restartCell s) :=
  forEach_keeps (property := Beside s) (fun c _ t ht => ht.trans (restartCell_beside c t)) (.refl s)

/-- A cell that is not DISABLED is sent REJOIN. -/
theorem restartCell_rejoin {c : CellId} {s : State} (h : (s.cell c).state ≠ .disabled) :
    s.ports.deck ++ [(c, .rejoin)] <+: (restartCell c s).ports.deck := by
  unfold restartCell
  rw [if_neg h]
  dsimp only
  split
  · exact ((modCell_beside c (fun x => { x with grant := 0 }) (modCell c Cell.restarted (emitDeck c .rejoin s))).trans
      (recompute_beside _)).deck
  · exact List.prefix_rfl

theorem ducRestartEffect_rejoin {c : CellId} {s : State} (h : (s.cell c).state ≠ .disabled) :
    (c, .rejoin) ∈ s.sentSince (ducRestartEffect s) := by
  obtain ⟨front, back, hsplit⟩ := List.append_of_mem (mem_allCells c)
  have hstate : ((forEach front restartCell (setRetuneList [] s)).cell c).state ≠ .disabled := by
    have hcell := congrArg Cell.state (forEach_restartCell_ungranted front c (setRetuneList [] s))
    rw [← ungranted_state, hcell, setRetuneList_cell]
    split
    · rw [afterRestart, if_neg h]
      simp [ungranted, Cell.restarted, Cell.dropped]
    · exact h
  have heffect : ducRestartEffect s
      = forEach back restartCell (restartCell c (forEach front restartCell (setRetuneList [] s))) := by
    rw [ducRestartEffect, hsplit, forEach, List.foldl_append]
    rfl
  have hfront : s.ports.deck <+: (forEach front restartCell (setRetuneList [] s)).ports.deck :=
    (forEach_restartCell_beside front (setRetuneList [] s)).deck
  obtain ⟨more, hmore⟩ := (restartCell_rejoin hstate).trans (forEach_restartCell_beside back _).deck
  rw [heffect]
  exact mem_sentSince hfront (by rw [← hmore, List.append_assoc]; rfl)

/-! ### JOINs held during a restart (R76) -/

theorem seated_beside (c : CellId) (serial : Nat) (s : State) : Beside s (seated c serial s) :=
  .of_outsideJoin (seated_outsideJoin ..) ((seated_deck_prefix c serial s).trans (List.prefix_append ..))

theorem acceptJoin_beside (c : CellId) (serial : Nat) (s : State) : Beside s (acceptJoin c serial s) := by
  rw [acceptJoin_eq]
  exact .ite (fun _ => (seated_beside ..).trans (recompute_beside _)) fun _ => seated_beside ..

theorem acceptAgain_beside (c : CellId) (s : State) : Beside s (acceptAgain c s) := by
  rw [acceptAgain_eq]
  refine .of_outsideJoin rfl ?_
  simp only [setCell_ports, List.append_assoc]
  exact List.prefix_append ..

theorem restartJoin_beside (c : CellId) (serial : Nat) (s : State) : Beside s (restartJoin c serial s) := by
  have hjoined := (unitRestarted_beside c s).trans (acceptJoin_beside c serial _)
  exact .ite (fun _ => hjoined.trans (recompute_beside _)) fun _ => hjoined

theorem takeJoin_beside (c : CellId) (serial : Nat) (s : State) : Beside s (takeJoin c serial s) := by
  have hrestart : Beside s (if serial = (s.cell c).serial then countBad c s else restartJoin c serial s) :=
    .ite (fun _ => modCell_beside ..) fun _ => restartJoin_beside ..
  unfold takeJoin
  split
  · exact acceptJoin_beside ..
  · exact acceptJoin_beside ..
  · exact acceptJoin_beside ..
  · exact .ite (fun _ => acceptAgain_beside ..) fun _ => restartJoin_beside ..
  · exact hrestart
  · exact hrestart
  · exact hrestart
  · exact hrestart
  · exact .of_charged (emitDeck_settled ..).toCharged

/-- Taking the held JOINs delivers nothing to the blocks and answers no request. -/
theorem takeHeldJoins_mail_inbound (s : State) :
    (takeHeldJoins s).mail = s.mail ∧ (takeHeldJoins s).ctp.inbound = s.ctp.inbound := by
  have htaken : Beside { s with duc := { s.duc with heldJoins := [] } }
      (forEach s.duc.heldJoins (fun j => takeJoin j.1 j.2) { s with duc := { s.duc with heldJoins := [] } }) :=
    forEach_keeps (property := Beside _) (fun j _ t ht => ht.trans (takeJoin_beside j.1 j.2 t)) (.refl _)
  unfold takeHeldJoins
  split
  · exact ⟨rfl, rfl⟩
  · exact ⟨htaken.mail, htaken.part (fun u => u.ctp.inbound) fun _ => rfl⟩

/-- A block's restart, after which the held JOINs may be taken. -/
theorem takeRestart_joins {b : Block} {effect : State → State} {s : State} (hb : s.mail.restart.contains b = true)
    (hmail : (effect (s.restartTaken b)).mail.restart = s.mail.restart.erase b)
    (hin : (effect (s.restartTaken b)).ctp.inbound = s.ctp.inbound) (h : s.NoneMalformed b) :
    takeRestart b (fun t => takeHeldJoins (effect t)) s = (effect (s.restartTaken b)).joinsTaken := by
  obtain ⟨hjoinsMail, hjoinsIn⟩ := takeHeldJoins_mail_inbound (effect (s.restartTaken b))
  rw [joinsTaken_eq]
  exact takeRestart_delivered (effect := fun t => takeHeldJoins (effect t)) hb
    ((congrArg Mail.restart hjoinsMail).trans hmail) (hjoinsIn.trans hin) h

/-! ### The EPC's restart (R139, R150) -/

/-- Where one epoch names the newest generation, only that one is held on. -/
theorem keepNamed_newest {α : Type} (number : α → Nat) (gens : List α) (d : α) :
    keepNamed number [number (gens.getLast?.getD d)] gens
      = gens.filter fun g => number g == number (gens.getLast?.getD d) := by
  unfold keepNamed
  split
  next h => simp [List.getLast?_eq_none_iff.mp h]
  next newest h =>
    refine List.filter_congr fun g _ => ?_
    simp [h, beq_eq_decide]

theorem epcRestartEffect_eq (s : State) :
    epcRestartEffect s =
      { s with
        epc := { s.epc with ring := [s.restartEpoch] }
        rge := { s.rge with generations := s.rge.generations.filter (fun g => g.number == s.newestPartner.number) }
        rte := { s.rte with generations := s.rte.generations.filter (fun g => g.number == s.newestTariff.number) } } := by
  have hpartner := keepNamed_newest PartnerGen.number s.rge.generations ⟨0, none⟩
  have htariff := keepNamed_newest TariffGen.number s.rte.generations ⟨0, none⟩
  unfold epcRestartEffect releaseGenerations
  simp only [setRing_epc, setRing_rge, setRing_rte, List.map_cons, List.map_nil]
  have hrge : keepNamed PartnerGen.number [s.restartEpoch.partnerGen] s.rge.generations = _ := hpartner
  have hrte : keepNamed TariffGen.number [s.restartEpoch.tariffGen] s.rte.generations = _ := htariff
  rw [hrge, hrte]
  rfl

end Sys2Proof.Proofs
end

section
/-! OBLIGATION O59. -/

namespace Sys2Proof.Proofs

open Sys2Proof.Machine

/-! ### The tickets of one context, by key and reason (R180) -/

section

variable {s : State} {e : Nat × Context}

/-- What a ticket is made for and why, for each that a context's restart makes. -/
theorem ticketsFor_pairs (horder : ContextsInOrder s) (he : e ∈ s.sbt.contexts) :
    (ticketsFor s (sbtRestartEffect s) e).map (fun v => (v.key, v.reason))
      = (restartBills s (decide (e ∈ offList s)) e.2).map fun m => (m.1.key, m.2) := by
  have hstubs := congrArg (List.map fun q => (q.2.2.1.key, q.2.2.2)) (ticketsFor_stubs horder he)
  rw [contextStubs, List.map_map, List.map_map] at hstubs
  exact hstubs

/-- Whether a ticket of a key and its bytes is among them. -/
theorem ticketsFor_any (horder : ContextsInOrder s) (he : e ∈ s.sbt.contexts) (key : Key) (up down : Nat) :
    (ticketsFor s (sbtRestartEffect s) e).any (fun v => v.key == key && v.up == up && v.down == down)
      = (restartBills s (decide (e ∈ offList s)) e.2).any fun m => m.1.key == key && m.1.up == up && m.1.down == down := by
  have hstubs := congrArg (List.any · fun q => q.2.2.1.key == key && q.2.2.1.up == up && q.2.2.1.down == down)
    (ticketsFor_stubs horder he)
  rw [contextStubs, List.any_map, List.any_map] at hstubs
  exact hstubs

end

section

variable {s : State} {x : Context} {h : Held}

/-- Without held usage that is rated, what is open is closed with reason RESTART. -/
theorem restartBills_closing {off : Bool} (hx : x.held = none ∨ off = true) : restartBills s off x = closing .restart x := by
  unfold restartBills
  rcases hx with hx | rfl
  · rw [hx]
  · cases x.held <;> rfl

theorem restartBills_rated (hh : x.held = some h) :
    restartBills s false x =
      (rated (s.heldKey x h) h.up h.down (olderEntry s h.epoch x) (x.accumulator.map volume)).1
        ++ [((rated (s.heldKey x h) h.up h.down (olderEntry s h.epoch x) (x.accumulator.map volume)).2, .restart)] := by
  simp only [restartBills, hh, Bool.false_eq_true, if_false]

theorem restartBills_none (hh : x.held = some h) (ha : x.accumulator = none) :
    restartBills s false x = [(.first (s.heldKey x h) h.up h.down, .restart)] := by
  rw [restartBills_rated hh, ha]
  rfl

theorem restartBills_own {a : Accumulator} (hh : x.held = some h) (ha : x.accumulator = some a)
    (hkey : a.key = s.heldKey x h) : restartBills s false x = [((volume a).add h.up h.down, .restart)] := by
  rw [restartBills_rated hh, ha]
  simp [rated, volume, hkey]

theorem restartBills_other {a : Accumulator} (hh : x.held = some h) (ha : x.accumulator = some a)
    (hkey : a.key ≠ s.heldKey x h) :
    restartBills s false x =
      if s.epochAge (s.ratingEpoch h.epoch).number < s.epochAge a.lastEpoch then
        [(.first (s.heldKey x h) h.up h.down, .late), (volume a, .restart)]
      else [(volume a, a.key.difference (s.heldKey x h)), (.first (s.heldKey x h) h.up h.down, .restart)] := by
  have hage : olderEntry s h.epoch x = decide (s.epochAge (s.ratingEpoch h.epoch).number < s.epochAge a.lastEpoch) := by
    rw [olderEntry, ha]
    rfl
  rw [restartBills_rated hh, ha, hage]
  by_cases hold : s.epochAge (s.ratingEpoch h.epoch).number < s.epochAge a.lastEpoch <;> simp [rated, volume, hkey, hold]

/-- The held usage that is rated is in the ticket of its key, with what the open record of that key had. -/
theorem restartBills_any (hh : x.held = some h) :
    ((restartBills s false x).any fun m =>
      m.1.key == s.heldKey x h
        && m.1.up == min maxBytes ((x.accumulator.filter (fun a => a.key == s.heldKey x h)).elim 0 Accumulator.up + h.up)
        && m.1.down == min maxBytes ((x.accumulator.filter (fun a => a.key == s.heldKey x h)).elim 0 Accumulator.down + h.down))
      = true := by
  cases ha : x.accumulator with
  | none => simp [restartBills_none hh ha, Volume.first]
  | some a =>
    by_cases hkey : a.key = s.heldKey x h
    · simp [restartBills_own hh ha hkey, Volume.add, volume, hkey, Option.filter]
    · rw [restartBills_other hh ha hkey]
      split <;> simp [Volume.first, hkey, Option.filter]

end

/-! ### The hold list after the restart (R180) -/

theorem not_mem_holdList_of_held {s : State} (horder : ContextsInOrder s) {e : Nat × Context} (he : e ∈ s.sbt.contexts)
    (hheld : e.2.held.isSome = true) : e.1 ∉ (sbtRestartEffect s).tkq.holdList := by
  rw [sbtRestartEffect_holdList horder]
  intro hmem
  obtain ⟨-, hnone⟩ := List.mem_filter.mp hmem
  have hany : s.sbt.contexts.any (fun f => f.1 == e.1 && f.2.held.isSome) = true :=
    List.any_eq_true.mpr ⟨e, he, by simp [hheld]⟩
  simp [hany] at hnone

/-- Every context on the hold list has held usage, so that none is left on it. -/
theorem holdList_empty {s : State} (h : HoldLaw s) : (sbtRestartEffect s).tkq.holdList = [] := by
  obtain ⟨⟨horder, -⟩, -, hheld, -⟩ := h
  refine List.eq_nil_iff_forall_not_mem.mpr fun k hk => ?_
  have hlisted : k ∈ s.tkq.holdList := by
    rw [sbtRestartEffect_holdList horder] at hk
    exact (List.mem_filter.mp hk).1
  obtain ⟨held, hsome⟩ := Option.isSome_iff_exists.mp ((hheld k).mp hlisted)
  obtain ⟨x, hx, hxheld⟩ := Option.bind_eq_some_iff.mp hsome
  have hmem : (k, x) ∈ s.sbt.contexts := (Assoc.get_eq_some_iff _ horder _ _).mp hx
  exact not_mem_holdList_of_held horder hmem (by rw [hxheld]; rfl) hk

/-! ### The DUC's restart as a command (R76) -/

/-- The cells, the REJOIN frames, and all else as it was. -/
theorem ducRestart_done {s : State} (hlaw : GrantLaw s) (hn : s.NoneMalformed .duc)
    (hb : s.mail.restart.contains .duc = true) :
    ∃ t, exec .ducRestart s = .next t
      ∧ (∀ c, t.cell c = afterRestart (s.cell c))
      ∧ (∀ c, (s.cell c).state ≠ .disabled → (c, .rejoin) ∈ s.sentSince t)
      ∧ outsideCells t = outsideCells (setRetuneList [] (s.restartTaken .duc)) := by
  have houtside := ducRestartEffect_outsideCells (s.restartTaken .duc)
  have htaken : takeRestart .duc ducRestartEffect s = ducRestartEffect (s.restartTaken .duc) :=
    takeRestart_delivered hb (part_of_outsideCells houtside (fun u => u.mail.restart) fun _ => rfl)
      (part_of_outsideCells houtside (fun u => u.ctp.inbound) fun _ => rfl) hn
  refine ⟨refreshLamp (ducRestartEffect (s.restartTaken .duc)), congrArg done htaken, fun c => ?_, fun c hc => ?_,
    (refreshLamp_outsideCells _).trans houtside⟩
  · rw [refreshLamp_cell]
    exact ducRestartEffect_cell (s := s.restartTaken .duc) hlaw c
  · have hsent := ducRestartEffect_rejoin (s := s.restartTaken .duc) hc
    rwa [State.sentSince, refreshLamp_ports]

/-! ### The obligation -/

/-- Settles O59, block by block; the SBT's part over its contexts in rising order. -/
theorem restarts : Obligations.Restarts := by
  intro s tag c serial ht
  refine ⟨fun hr => ?_, ⟨fun hb hn => ?_, fun hb hn => ?_, fun hb hn => ?_, fun hb hn => ?_⟩,
    ⟨fun hb => ?_, fun hb => ?_, fun hb => ?_, fun hb => ?_, fun hb => ?_, fun hb => ?_⟩, fun hlaw hn hb => ?_, fun hb hn => ?_,
    ?_, fun horder => ?_, fun horder e he => ?_, fun hfree hserial => exec_join_taken hfree c hserial⟩
  · exact replies_of_arrived ht hr (bodyFits_of_length rfl (by decide) (by simp) (by simp)) rfl rfl
  · exact congrArg done (takeRestart_delivered hb rfl rfl hn)
  · exact congrArg done (takeRestart_delivered hb rfl rfl hn)
  · exact congrArg done (takeRestart_delivered hb rfl rfl hn)
  · have hepc := epcRestartEffect_eq (s.restartTaken .epc)
    refine congrArg done ((takeRestart_joins hb (by rw [hepc]; rfl) (by rw [hepc]; rfl) hn).trans ?_)
    rw [hepc]
    rfl
  · exact congrArg done (takeRestart_not_delivered hb)
  · exact congrArg done (takeRestart_not_delivered hb)
  · exact congrArg done (takeRestart_not_delivered hb)
  · exact congrArg done (takeRestart_not_delivered hb)
  · exact congrArg done (takeRestart_not_delivered hb)
  · exact congrArg done (takeRestart_not_delivered hb)
  · obtain ⟨t, hexec, hcells, hrejoin, houtside⟩ := ducRestart_done hlaw hn hb
    refine ⟨t, hexec, congrArg (fun u => u.duc.retuneList) houtside, congrArg (fun u => u.duc.heldJoins) houtside, fun hs => ?_,
      fun hs => ⟨?_, hrejoin c hs⟩, eq_of_outsideCells houtside⟩
    · have hzero : (s.cell c).grant = 0 := by
        obtain ⟨-, -, hzero, -⟩ := hlaw
        exact hzero c (by simp [hs])
      rw [hcells, afterRestart, if_pos hs, ungranted, ← hzero]
    · rw [hcells, afterRestart, if_neg hs]
      rfl
  · have hcharges := sbtRestartEffect_charges (s.restartTaken .sbt)
    exact congrArg done (takeRestart_joins hb (hcharges.part (fun u => u.mail.restart) fun _ => rfl)
      (hcharges.part (fun u => u.ctp.inbound) fun _ => rfl) hn)
  · have hcharges := sbtRestartEffect_charges s
    exact ⟨sbtRestartEffect_sbt s, hcharges.onlyCharging, hcharges.tickets, sbtRestartEffect_attached, holdList_empty,
      fun horder e he hheld => not_mem_holdList_of_held horder he hheld⟩
  · show if offList s = [] then _ else _
    have hwritten := sbtRestartEffect_writeOff horder
    split
    next hnone => rw [hwritten, hnone]; rfl
    next hsome =>
      refine ⟨sbtRestartEffect_backlog horder hsome, ?_⟩
      rw [hwritten, foldl_count hsome fun e he => held_of_mem_offList he]
      rfl
  · have hpairs := ticketsFor_pairs horder he
    have hany := ticketsFor_any horder he
    have hclosed (h : e.2.held = none ∨ decide (e ∈ offList s) = true) :
        (ticketsFor s (sbtRestartEffect s) e).map (fun v => (v.key, v.reason))
          = e.2.accumulator.toList.map fun a => (a.key, .restart) := by
      rw [hpairs, restartBills_closing h, closing, List.map_map]
      rfl
    dsimp only
    split
    next hheld => exact hclosed (.inl hheld)
    next h hheld =>
      split
      next hoff => exact hclosed (.inr (decide_eq_true hoff))
      next hoff =>
        have hrated : decide (e ∈ offList s) = false := decide_eq_false hoff
        rw [hrated] at hpairs hany
        refine ⟨(hany ..).trans (restartBills_any hheld), ?_⟩
        split
        next ha => exact hpairs.trans (by rw [restartBills_none hheld ha]; rfl)
        next a ha =>
          split
          next hkey => exact hpairs.trans (by rw [restartBills_own hheld ha hkey]; simp [Volume.add, volume, hkey])
          next hkey =>
            rw [restartBills_other hheld ha hkey] at hpairs
            split
            next hold => exact hpairs.trans (congrArg _ (if_pos hold))
            next hold => exact hpairs.trans (congrArg _ (if_neg hold))

end Sys2Proof.Proofs
end

section
/-! SUPPORT. Leaving service for good (R69, R71): what the loss or the disabling of a cell makes of the cell, of the others, of
the contexts and of the conditions. -/

namespace Sys2Proof.Proofs

open Sys2Proof.Machine

/-! ### Conditions stay set -/

section

variable {s t : State}

theorem CondsKept.ite {p : Prop} [Decidable p] {a b : State} (ha : CondsKept s a) (hb : CondsKept s b) :
    CondsKept s (if p then a else b) := by
  split
  · exact ha
  · exact hb

/-- A loop whose every turn keeps the conditions. -/
theorem forEach_condsKept {α : Type} {items : List α} {f : α → State → State} (h : ∀ a t, CondsKept t (f a t)) (s : State) :
    CondsKept s (forEach items f s) :=
  forEach_keeps (property := CondsKept s) (fun a _ t ht => ht.trans (h a t)) (.refl s)

theorem closeAccumulator_condsKept (k : Nat) (reason : CloseReason) (s : State) :
    CondsKept s (closeAccumulator k reason s) := by
  cases h : s.context k with
  | none =>
    have hsame : closeAccumulator k reason s = s := by simp only [closeAccumulator, h, Option.bind_none]
    exact hsame.symm ▸ .refl s
  | some x =>
    obtain ⟨q, b, hclosed⟩ := closeAccumulator_billed h reason
    exact hclosed.conds

theorem sweepContext_condsKept (k : Nat) (s : State) : CondsKept s (sweepContext k s) := by
  unfold sweepContext
  split
  next => exact .refl s
  next =>
    split
    next => exact .refl s
    next => exact .ite (.refl s) (.ite (.of_ctp rfl) (closeAccumulator_condsKept _ _ _))

theorem boundarySweep_condsKept (s : State) : CondsKept s (boundarySweep s) := forEach_condsKept sweepContext_condsKept s

theorem setRing_condsKept (ring : List Epoch) (s : State) : CondsKept s (setRing ring s) := .of_ctp rfl

theorem releaseGenerations_condsKept (s : State) : CondsKept s (releaseGenerations s) := .of_ctp rfl

theorem countRetired_condsKept (r : RetireReason) (s : State) : CondsKept s (countRetired r s) := by
  cases r <;> exact .of_ctp rfl

theorem retireOldest_condsKept (r : RetireReason) (s : State) : CondsKept s (retireOldest r s) := by
  unfold retireOldest
  split
  next f rest _ =>
    exact (setRing_condsKept ({ f with cut := .none } :: rest) s).trans ((boundarySweep_condsKept _).trans
      ((releaseGenerations_condsKept _).trans (countRetired_condsKept r _)))
  next => exact .refl s

theorem retireWhile_condsKept (n : Nat) (s : State) : CondsKept s (retireWhile n s) := by
  induction n generalizing s with
  | zero => exact .refl s
  | succ n ih =>
    unfold retireWhile
    split
    · split
      · exact (retireOldest_condsKept _ _).trans (ih _)
      · exact (retireOldest_condsKept _ _).trans (ih _)
      · exact .refl s
    · exact .refl s

theorem strikeCell_condsKept (c : CellId) (s : State) : CondsKept s (strikeCell c s) :=
  (setRing_condsKept (s.epc.ring.map (Epoch.strike c)) s).trans (retireWhile_condsKept _ _)

theorem modContext_condsKept (k : Nat) (f : Context → Context) (s : State) : CondsKept s (modContext k f s) := by
  rcases modContext_cases k f s with ⟨-, h⟩ | ⟨x, -, h⟩ <;> rw [h]
  · exact .refl s
  · exact .of_ctp rfl

theorem orphanContext_condsKept (k : Nat) (s : State) : CondsKept s (orphanContext k s) := by
  have hcomplete : CondsKept s (completeCounts k s) :=
    .ite (modContext_condsKept _ _ _) ((closeAccumulator_condsKept _ _ _).trans (freeContext_charges k _).conds)
  unfold orphanContext
  split
  next => exact .refl s
  next =>
    refine .ite (.ite hcomplete (.refl s)) ?_
    split
    · exact .refl s
    · exact .of_ctp rfl

theorem orphanCell_condsKept (c : CellId) (s : State) : CondsKept s (orphanCell c s) :=
  forEach_condsKept (fun k t => .ite (orphanContext_condsKept k t) (.refl t)) s

end

/-! ### Dispatching: the other cells, and what lies beside the cells (R87) -/

/-- A state without what a change of cells, grants and the retune list may change. -/
def outsideTable (s : State) : State := outsideCells (setRetuneList [] s)

theorem part_of_outsideTable {β : Type} {s t : State} (h : outsideTable t = outsideTable s) (f : State → β)
    (hf : ∀ x, f (outsideTable x) = f x) : f t = f s := by
  rw [← hf t, h, hf]

theorem leaveServing_outsideTable (c : CellId) (s : State) : outsideTable (leaveServing c s) = outsideTable s :=
  congrArg (setRetuneList []) (recompute_outsideCells (clearGrant c s))

theorem sendDeck_outsideTable (c : CellId) (f : DeckFrame) (s : State) : outsideTable (sendDeck c f s) = outsideTable s := by
  rcases sendDeck_cases c f s with ⟨-, h⟩ | ⟨-, h⟩ <;> rw [h]
  rfl

theorem dispatchCell_outsideTable (c : CellId) (s : State) : outsideTable (dispatchCell c s) = outsideTable s := by
  have hsent := sendDeck_outsideTable c (.retune s.zone.beacon s.newestEpoch.number) (leaveRetuneList c s)
  unfold dispatchCell
  dsimp only
  split
  · exact (leaveServing_outsideTable ..).trans hsent
  · exact hsent

theorem dispatchCell_retuneList (c : CellId) (s : State) :
    (dispatchCell c s).duc.retuneList = s.duc.retuneList.filter (· != c) := by
  have hsent := sendDeck_retuneList c (.retune s.zone.beacon s.newestEpoch.number) (leaveRetuneList c s)
  unfold dispatchCell
  dsimp only
  split
  · rw [leaveServing_retuneList]
    exact hsent
  · exact hsent

theorem dispatchCell_ungranted {c d : CellId} (h : d ≠ c) (s : State) :
    ungranted ((dispatchCell c s).cell d) = ungranted (s.cell d) := by
  unfold dispatchCell
  dsimp only
  split
  · rw [leaveServing_ungranted, modCell, setCell_cell, if_neg h, sendDeck_cell, leaveRetuneList_cell]
  · rw [modCell, setCell_cell, if_neg h, sendDeck_cell, leaveRetuneList_cell]

/-- Dispatching leaves a cell that is not on the retune list there and, but for its grant, as it was. -/
theorem dispatchWhile_unlisted (limit n : Nat) {d : CellId} {s : State} (h : d ∉ s.duc.retuneList) :
    d ∉ (dispatchWhile limit n s).duc.retuneList
      ∧ ungranted ((dispatchWhile limit n s).cell d) = ungranted (s.cell d)
      ∧ outsideTable (dispatchWhile limit n s) = outsideTable s := by
  induction n generalizing s with
  | zero => exact ⟨h, rfl, rfl⟩
  | succ n ih =>
    unfold dispatchWhile
    split
    next => exact ⟨h, rfl, rfl⟩
    next c rest hlist =>
      have hne : d ≠ c := fun heq => h (by simp [hlist, heq])
      split
      · have hoff : d ∉ (dispatchCell c s).duc.retuneList := by
          rw [dispatchCell_retuneList]
          exact fun hd => h (List.mem_filter.mp hd).1
        obtain ⟨hlist', hcell, houtside⟩ := ih hoff
        exact ⟨hlist', hcell.trans (dispatchCell_ungranted hne s), houtside.trans (dispatchCell_outsideTable c s)⟩
      · exact ⟨h, rfl, rfl⟩

/-! ### Out of service (R69 steps 1 to 3) -/

/-- A cell out of service for good, before it is struck from the pending sets and its contexts become orphans. -/
def outOfService (state : CellState) (c : CellId) (s : State) : State :=
  let before := (s.cell c).state
  let s1 := leaveRetuneList c (modCell c (Cell.dropped state) s)
  let s2 := if before = .retuning then dispatch s1 else s1
  if before = .serving then leaveServing c s2 else s2

theorem dropCell_eq (state : CellState) (c : CellId) (s : State) :
    dropCell state c s = orphanCell c (strikeCell c (outOfService state c s)) := rfl

section

variable (state : CellState) (c : CellId) (s : State)

/-- The three ways out of service: from RETUNING, with a dispatch; from SERVING, with a recomputation; and from any other
state. -/
theorem outOfService_cases :
    ((s.cell c).state = .retuning
        ∧ outOfService state c s = dispatch (leaveRetuneList c (modCell c (Cell.dropped state) s)))
      ∨ ((s.cell c).state = .serving
        ∧ outOfService state c s = leaveServing c (leaveRetuneList c (modCell c (Cell.dropped state) s)))
      ∨ ((s.cell c).state ≠ .retuning ∧ outOfService state c s = leaveRetuneList c (modCell c (Cell.dropped state) s)) := by
  unfold outOfService
  cases h : (s.cell c).state <;> simp

theorem dropped_ungranted (d : CellId) :
    ungranted ((leaveRetuneList c (modCell c (Cell.dropped state) s)).cell d)
      = if d = c then ungranted (Cell.dropped state (s.cell c)) else ungranted (s.cell d) := by
  rw [leaveRetuneList_cell, modCell, setCell_cell]
  split <;> rfl

theorem outOfService_cell : ungranted ((outOfService state c s).cell c) = ungranted (Cell.dropped state (s.cell c)) := by
  have hdropped := dropped_ungranted state c s c
  rw [if_pos rfl] at hdropped
  rcases outOfService_cases state c s with ⟨-, h⟩ | ⟨-, h⟩ | ⟨-, h⟩ <;> rw [h]
  · obtain ⟨-, hcell, -⟩ := dispatchWhile_unlisted _ _ (not_mem_leaveRetuneList c (modCell c (Cell.dropped state) s))
    exact hcell.trans hdropped
  · exact (leaveServing_ungranted ..).trans hdropped
  · exact hdropped

/-- Where no window place is freed, the other cells keep all but their grants. -/
theorem outOfService_cell_ne {state : CellState} {c d : CellId} {s : State} (h : (s.cell c).state ≠ .retuning) (hd : d ≠ c) :
    ungranted ((outOfService state c s).cell d) = ungranted (s.cell d) := by
  have hdropped := dropped_ungranted state c s d
  rw [if_neg hd] at hdropped
  rcases outOfService_cases state c s with ⟨hs, -⟩ | ⟨-, h⟩ | ⟨-, h⟩
  · exact absurd hs h
  · rw [h]
    exact (leaveServing_ungranted ..).trans hdropped
  · rw [h]
    exact hdropped

theorem outOfService_retuneList : c ∉ (outOfService state c s).duc.retuneList := by
  have hoff := not_mem_leaveRetuneList c (modCell c (Cell.dropped state) s)
  rcases outOfService_cases state c s with ⟨-, h⟩ | ⟨-, h⟩ | ⟨-, h⟩ <;> rw [h]
  · obtain ⟨hlist, -⟩ := dispatchWhile_unlisted _ _ hoff
    exact hlist
  · rw [leaveServing_retuneList]
    exact hoff
  · exact hoff

theorem outOfService_outsideTable : outsideTable (outOfService state c s) = outsideTable s := by
  rcases outOfService_cases state c s with ⟨-, h⟩ | ⟨-, h⟩ | ⟨-, h⟩ <;> rw [h]
  · obtain ⟨-, -, houtside⟩ := dispatchWhile_unlisted _ _ (not_mem_leaveRetuneList c (modCell c (Cell.dropped state) s))
    exact houtside
  · exact leaveServing_outsideTable ..
  · rfl

theorem outOfService_sbt : (outOfService state c s).sbt = s.sbt :=
  part_of_outsideTable (outOfService_outsideTable state c s) State.sbt fun _ => rfl

theorem outOfService_ctp : (outOfService state c s).ctp = s.ctp :=
  part_of_outsideTable (outOfService_outsideTable state c s) State.ctp fun _ => rfl

theorem outOfService_beside : Beside s (outOfService state c s) := by
  have hleft : Beside s (leaveRetuneList c (modCell c (Cell.dropped state) s)) :=
    (modCell_beside ..).trans (leaveRetuneList_beside ..)
  rcases outOfService_cases state c s with ⟨-, h⟩ | ⟨-, h⟩ | ⟨-, h⟩ <;> rw [h]
  · exact hleft.trans (dispatchWhile_beside ..)
  · exact hleft.trans ((modCell_beside ..).trans (recompute_beside _))
  · exact hleft

theorem dropCell_beside : Beside s (dropCell state c s) :=
  (outOfService_beside state c s).trans
    (.of_charged ((strikeCell_settled ..).toCharged.trans (orphanCell_charged ..)))

theorem dropCell_condsKept : CondsKept s (dropCell state c s) :=
  (CondsKept.of_ctp (outOfService_ctp state c s)).trans ((strikeCell_condsKept _ _).trans (orphanCell_condsKept _ _))

end

/-! ### Orphaning: the pending sets, the other cells and the other contexts (R111) -/

section

variable {c d : CellId} {k : Nat} {s : State}

theorem freeContext_epc (k : Nat) (s : State) : (freeContext k s).epc = s.epc := by
  unfold freeContext
  split <;> rfl

/-- An orphaning lets no epoch wait for a cell that it did not wait for. -/
theorem orphanContext_pending (h : ∀ e ∈ s.epc.ring, c ∉ e.pendingSet) : ∀ e ∈ (orphanContext k s).epc.ring, c ∉ e.pendingSet := by
  have hsettled {t : State} (ht : Settled s t) : ∀ e ∈ t.epc.ring, c ∉ e.pendingSet := fun e he hc => by
    obtain ⟨f, hf, hsub⟩ := ht.pending e he
    exact h f hf (hsub hc)
  unfold orphanContext completeCounts
  split
  next => exact h
  next =>
    split
    next =>
      split
      · split
        · exact hsettled (modContext_settled fun _ => rfl)
        · rw [freeContext_epc]
          exact hsettled (closeAccumulator_settled ..)
      · exact h
    next => split <;> exact h

theorem orphanCell_pending (h : ∀ e ∈ s.epc.ring, c ∉ e.pendingSet) : ∀ e ∈ (orphanCell c s).epc.ring, c ∉ e.pendingSet :=
  orphanTurns_keep (property := fun t => ∀ e ∈ t.epc.ring, c ∉ e.pendingSet) (fun _ _ => orphanContext_pending) h

theorem freeContext_cell_ne {x : Context} (h : s.context k = some x) (hd : d ≠ x.cell) :
    (freeContext k s).cell d = s.cell d := by
  have hcell : (freeContext k s).cell d = (lowerAttached x.cell s).cell d := by
    rw [freeContext, h]
    rfl
  rw [hcell, lowerAttached, modCell, setCell_cell, if_neg hd]

/-- Orphaning a context leaves every cell but the context's own. -/
theorem orphanContext_cell_ne {x : Context} (h : s.context k = some x) (hd : d ≠ x.cell) :
    (orphanContext k s).cell d = s.cell d := by
  have hsettled {t : State} (ht : Settled s t) : t.cell d = s.cell d := congrArg (fun u : Duc => u.cells.get d) ht.duc
  have hclosed := closeAccumulator_settled k .serviceOff s
  obtain ⟨y, hy, hmark⟩ := Option.map_eq_some_iff.mp ((hclosed.marks k).trans (congrArg _ h))
  have hycell : y.cell = x.cell := congrArg Prod.fst hmark
  unfold orphanContext completeCounts
  rw [h]
  dsimp only
  split
  · split
    · split
      · exact hsettled (modContext_settled fun _ => rfl)
      · rw [freeContext_cell_ne hy (by rwa [hycell])]
        exact hsettled hclosed
    · rfl
  · split <;> rfl

theorem orphanCell_cell_ne (hd : d ≠ c) (s : State) : (orphanCell c s).cell d = s.cell d := by
  refine forEach_keeps (property := fun t => t.cell d = s.cell d) (fun k _ t ht => ?_) rfl
  split
  next hturn =>
    obtain ⟨x, hx, hcell⟩ := Option.map_eq_some_iff.mp (beq_iff_eq.mp hturn)
    rw [orphanContext_cell_ne hx (by rwa [hcell]), ht]
  next => exact ht

/-- A cell's orphaning touches no mark of another cell's context. -/
theorem orphanCell_mark {m : CellId × Option Nat × CtxState} (hm : (s.context k).map mark = some m) (hd : m.1 ≠ c) :
    ((orphanCell c s).context k).map mark = some m := by
  refine forEach_keeps (property := fun t => (t.context k).map mark = some m) (fun j _ t ht => ?_) hm
  split
  next hturn =>
    have hne : k ≠ j := fun heq => by
      obtain ⟨x, hx, hcell⟩ := Option.map_eq_some_iff.mp (beq_iff_eq.mp hturn)
      rw [heq, hx] at ht
      exact hd ((congrArg Prod.fst (Option.some.inj ht)).symm.trans hcell)
    rw [orphanContext_mark_ne hne, ht]
  next => exact ht

theorem mem_contextIndices {x : Context} (h : s.context k = some x) : k ∈ s.contextIndices := by
  have hkeys (l : List (Nat × Context)) (hl : Assoc.get l k = some x) : k ∈ l.map Prod.fst := by
    induction l with
    | nil => simp [Assoc.get] at hl
    | cons e rest ih =>
      obtain ⟨j, y⟩ := e
      by_cases hj : j = k
      · simp [hj]
      · exact List.mem_cons_of_mem _ (ih (by simpa [Assoc.get, hj] using hl))
  exact hkeys _ h

theorem InUse.mem_contextIndices (h : InUse c k s) : k ∈ s.contextIndices := by
  obtain ⟨_, _, hmark, -⟩ := h
  obtain ⟨x, hx, -⟩ := Option.map_eq_some_iff.mp hmark
  exact Proofs.mem_contextIndices hx

end

/-! ### The loss or disabling of a cell -/

theorem eq_of_ungranted {x y : Cell} (h : ungranted x = ungranted y) : x = { y with grant := x.grant } := by
  calc x = { ungranted x with grant := x.grant } := rfl
    _ = { y with grant := x.grant } := by rw [h]; rfl

section

variable {state : CellState} {c : CellId} {s : State}

/-- The cell's record after its loss or disabling. -/
theorem dropCell_cell (hlaw : GrantLaw s) (hstate : state ≠ .serving) :
    (dropCell state c s).cell c
      = { Cell.dropped state (s.cell c) with grant := 0, attached := ((dropCell state c s).cell c).attached } := by
  have hcharged : Charged (outOfService state c s) (dropCell state c s) :=
    (strikeCell_settled ..).toCharged.trans (orphanCell_charged ..)
  have hcell := hcharged.cell c
  rw [eq_of_ungranted (outOfService_cell state c s)] at hcell
  have hserving : ((dropCell state c s).cell c).state ≠ .serving := by
    rw [hcell]
    exact hstate
  have hgrant : ((dropCell state c s).cell c).grant = 0 := by
    obtain ⟨-, -, hzero, -⟩ := (dropCell_kept state c s).grants hlaw
    exact hzero c hserving
  have houtside : ((outOfService state c s).cell c).grant = 0 := by
    rw [← hgrant, hcell]
  rw [houtside] at hcell
  exact hcell

theorem dropCell_cell_ne {d : CellId} (h : (s.cell c).state ≠ .retuning) (hd : d ≠ c) :
    (dropCell state c s).cell d = { s.cell d with grant := ((dropCell state c s).cell d).grant } := by
  have hstruck : (strikeCell c (outOfService state c s)).cell d = (outOfService state c s).cell d :=
    congrArg (fun u : Duc => u.cells.get d) (strikeCell_settled ..).duc
  have hcell := (orphanCell_cell_ne hd _).trans hstruck
  exact eq_of_ungranted ((congrArg ungranted hcell).trans (outOfService_cell_ne h hd))

theorem dropCell_retuneList : c ∉ (dropCell state c s).duc.retuneList := by
  have hcharged : Charged (outOfService state c s) (dropCell state c s) :=
    (strikeCell_settled ..).toCharged.trans (orphanCell_charged ..)
  rw [hcharged.retuneList]
  exact outOfService_retuneList state c s

theorem struck_mark (state : CellState) (c : CellId) (s : State) (k : Nat) :
    ((strikeCell c (outOfService state c s)).context k).map mark = (s.context k).map mark := by
  rw [(strikeCell_settled c (outOfService state c s)).marks, State.context, outOfService_sbt]
  rfl

/-- The contexts that the cell serves become orphans. -/
theorem dropCell_orphans (horder : ContextsInOrder s) {e : Nat × Context} (he : e ∈ s.sbt.contexts) (hcell : e.2.cell = c)
    (hleaving : e.2.state ≠ .leaving) : (((dropCell state c s).context e.1).bind Context.orphan).isSome = true := by
  have hinUse : InUse c e.1 (strikeCell c (outOfService state c s)) := by
    rw [InUse, struck_mark]
    exact inUse_of_mem horder he hcell hleaving
  exact (orphanCell_orphaned hinUse.mem_contextIndices hinUse).isSome

/-- The contexts that other cells serve keep their mark. -/
theorem dropCell_orphan_ne (horder : ContextsInOrder s) {e : Nat × Context} (he : e ∈ s.sbt.contexts) (hcell : e.2.cell ≠ c) :
    ((dropCell state c s).context e.1).bind Context.orphan = (s.context e.1).bind Context.orphan := by
  have hget : s.context e.1 = some e.2 := (Assoc.get_eq_some_iff _ horder _ _).mpr he
  have hmark := orphanCell_mark ((struck_mark state c s e.1).trans (congrArg _ hget)) hcell
  obtain ⟨x, hx, hxmark⟩ := Option.map_eq_some_iff.mp hmark
  have horphan : x.orphan = e.2.orphan := congrArg (fun m => m.2.1) hxmark
  rw [dropCell_eq, hx, hget]
  exact horphan

/-- The loss or disabling of a cell, whose state is then not SERVING. -/
theorem dropCell_dropped (hlaw : GrantLaw s) (hstate : state ≠ .serving) : Dropped c state s (dropCell state c s) := by
  have hbeside := dropCell_beside state c s
  exact ⟨dropCell_cell hlaw hstate, dropCell_retuneList, orphanCell_pending (strikeCell_pending c _),
    fun horder => ⟨fun e he => dropCell_orphans horder he, fun e he => dropCell_orphan_ne horder he⟩,
    fun h d hd => dropCell_cell_ne h hd, hbeside.settings, hbeside.pzu, hbeside.lkm, hbeside.cfs, hbeside.mail,
    hbeside.pending, hbeside.terminal⟩

end

/-! ### What the statement reads -/

/-- What `Dropped` reads of a state. -/
def droppedView (s : State) : State :=
  { State.reset with
    settings := s.settings
    pzu := s.pzu
    epc := s.epc
    lkm := s.lkm
    duc := { State.reset.duc with cells := s.duc.cells, retuneList := s.duc.retuneList }
    sbt := s.sbt
    cfs := s.cfs
    mail := s.mail
    pending := s.pending
    ports := { State.reset.ports with terminal := s.ports.terminal } }

theorem dropped_of_view {c : CellId} {state : CellState} {s t u v : State} (h : Dropped c state s t)
    (hs : droppedView u = droppedView s) (ht : droppedView v = droppedView t) : Dropped c state u v := by
  have hview : Dropped c state (droppedView s) (droppedView t) := h
  rw [← hs, ← ht] at hview
  exact hview

theorem refreshLamp_droppedView (s : State) : droppedView (refreshLamp s) = droppedView s := by
  unfold refreshLamp
  split <;> rfl

end Sys2Proof.Proofs
end

section
/-! OBLIGATION O43. -/

namespace Sys2Proof.Proofs

open Sys2Proof.Machine

/-! ### The expiries (R67, R89, R92) -/

section

variable {c : CellId} {d : Nat} {s u : State}

theorem exec_heartbeatTimerExpiry (c : CellId) (s : State) :
    exec (.heartbeatTimerExpiry c.val) s = done (atExpiry (s.cell c).heartbeatTimer (supervise c) s) := by
  show done _ = _
  rw [cellAt_val]

theorem exec_retuneTimerExpiry (c : CellId) (s : State) :
    exec (.retuneTimerExpiry c.val) s = done (atExpiry (s.cell c).retuneTimer (loseCell c) s) := by
  show done _ = _
  rw [cellAt_val]

theorem exec_silenceTimerExpiry (c : CellId) (s : State) :
    exec (.silenceTimerExpiry c.val) s
      = done (atExpiry (s.cell c).silenceTimer (fun t => loseCell c (setCond .cellSilenceFault t)) s) := by
  show done _ = _
  rw [cellAt_val]

theorem done_atExpiry_some {t : Timer} (h : t = some d) (effect : State → State) (s : State) :
    done (atExpiry t effect s) = done (effect (reachDeadline d s)) := by
  rw [h]
  rfl

theorem done_atExpiry_none {t : Timer} (h : t = none) (effect : State → State) (s : State) : done (atExpiry t effect s) = done s := by
  rw [h]
  rfl

/-- The second period in a row without a good HEARTBEAT loses the cell. -/
theorem supervise_lost (hgood : (s.cell c).good = false) (hmissed : 1 ≤ (s.cell c).missed) : supervise c s = loseCell c s := by
  unfold supervise
  rw [hgood]
  exact if_pos (Nat.succ_le_succ hmissed)

/-- A first period missed, or a good one, re-arms the timer. -/
theorem supervise_armed (h : (s.cell c).good = true ∨ (s.cell c).missed = 0) :
    supervise c s =
      setCell c
        { s.cell c with
          missed := if (s.cell c).good = true then 0 else 1
          good := false
          heartbeatTimer := some (s.deadline s.settings.heartbeatPeriod) } s := by
  have hmissed : (if (s.cell c).good = true then 0 else (s.cell c).missed + 1) = if (s.cell c).good = true then 0 else 1 := by
    rcases h with h | h <;> simp [h]
  unfold supervise
  dsimp only
  rw [hmissed, if_neg (by split <;> omega), armHeartbeat, modCell_modCell]
  rfl

theorem setCond_droppedView (d : Condition) (s : State) : droppedView (setCond d s) = droppedView s := rfl

/-- A cell lost, where what the loss drops stands as in an earlier state. -/
theorem loseCell_dropped (hlaw : GrantLaw u) (hview : droppedView s = droppedView u) :
    Dropped c .lost s (refreshLamp (loseCell c u)) :=
  dropped_of_view (dropCell_dropped hlaw (by decide)) hview
    ((refreshLamp_droppedView _).trans (setCond_droppedView .cellLost _))

theorem loseCell_cellLost (c : CellId) (s : State) : (refreshLamp (loseCell c s)).condSet .cellLost = true :=
  CondsKept.of_ctp (refreshLamp_ctp _) _ (setCond_condSet_self ..)

theorem loseCell_condsKept (c : CellId) (s : State) : CondsKept s (refreshLamp (loseCell c s)) :=
  (dropCell_condsKept .lost c s).trans ((setCond_condsKept .cellLost _).trans (.of_ctp (refreshLamp_ctp _)))

theorem loseCell_shipTime (c : CellId) (s : State) : (refreshLamp (loseCell c s)).shipTime = s.shipTime := by
  rw [refreshLamp_shipTime, loseCell, setCond_shipTime, (dropCell_beside .lost c s).shipTime]

/-! ### CELL_DISABLE and CELL_ENABLE (R71, R72) -/

theorem cellDisable_disabled (h : (s.cell c).state = .disabled) : cellDisable c.val s = answer .ok s := by
  unfold cellDisable
  rw [cellAt_val]
  exact if_pos h

theorem cellDisable_enabled (h : (s.cell c).state ≠ .disabled) :
    cellDisable c.val s = answer .ok (dropCell .disabled c (emitDeck c .silence s)) := by
  unfold cellDisable
  rw [cellAt_val]
  exact if_neg h

theorem cellDisable_badArg {cell : Nat} (h : 23 < cell) (s : State) : cellDisable cell s = answer .badArg s := by
  unfold cellDisable
  rw [cellAt_above h]

theorem cellEnable_badArg {cell : Nat} (h : 23 < cell) (s : State) : cellEnable cell s = answer .badArg s := by
  unfold cellEnable
  rw [cellAt_above h]

theorem cellEnable_disabled (h : (s.cell c).state = .disabled) :
    cellEnable c.val s = answer .ok (setCell c { s.cell c with state := .absent } s) := by
  unfold cellEnable
  rw [cellAt_val]
  exact if_pos h

theorem cellEnable_enabled (h : (s.cell c).state ≠ .disabled) : cellEnable c.val s = answer .state s := by
  unfold cellEnable
  rw [cellAt_val]
  exact if_neg h

/-- A request's reply, where its rule has kept the queues. -/
theorem appendReply_answered {tag code : Nat} {body : List Byte} (hs : s.firstWaiting = none)
    (hin : u.ctp.inbound = s.ctp.inbound ++ [⟨tag, code, body, false⟩]) (hout : u.ctp.outbound = s.ctp.outbound)
    (status : Status) (reply : List Byte) :
    Answered s (refreshLamp (appendReply tag status reply u)) tag code body status reply := by
  constructor
  · simp only [refreshLamp_ctp, appendReply, appendOut, hin]
    exact markAnswered_append_waiting hs tag code body
  · simp only [refreshLamp_ctp, appendReply, appendOut, hout]

/-- A state in which a CELL_DISABLE has arrived and its SILENCE is sent. -/
def silenceSent (tag : Nat) (c : CellId) (s : State) : State :=
  emitDeck c .silence (arrived ⟨tag, 0x21, be 1 c.val, false⟩ s)

theorem silenceSent_droppedView (tag : Nat) (c : CellId) (s : State) : droppedView (silenceSent tag c s) = droppedView s := rfl

theorem appendReply_droppedView (tag : Nat) (status : Status) (reply : List Byte) (s : State) :
    droppedView (appendReply tag status reply s) = droppedView s := rfl

theorem silenceSent_deck (tag : Nat) (c : CellId) (s : State) :
    (silenceSent tag c s).ports.deck = s.ports.deck ++ [(c, .silence)] := rfl

theorem silenceSent_shipTime (tag : Nat) (c : CellId) (s : State) : (silenceSent tag c s).shipTime = s.shipTime := rfl

theorem silenceSent_grantLaw {tag : Nat} (h : GrantLaw s) : GrantLaw (silenceSent tag c s) := h

theorem appendReply_ports (tag : Nat) (status : Status) (reply : List Byte) (s : State) :
    (appendReply tag status reply s).ports = s.ports := rfl

theorem appendReply_shipTime (tag : Nat) (status : Status) (reply : List Byte) (s : State) :
    (appendReply tag status reply s).shipTime = s.shipTime := rfl

theorem request_cellDisable {tag : Nat} (ht : tag < 256) (hr : Ready 0x21 s) (hs : (s.cell c).state ≠ .disabled) :
    request tag 0x21 (be 1 c.val) (cellDisable c.val) s = appendReply tag .ok [] (dropCell .disabled c (silenceSent tag c s)) := by
  have hrule : cellDisable c.val (arrived ⟨tag, 0x21, be 1 c.val, false⟩ s)
      = answer .ok (dropCell .disabled c (silenceSent tag c s)) := cellDisable_enabled hs
  rw [request_arrived ht hr (bodyFits_of_length rfl (by decide) (by simp) (by simp)), hrule]
  rfl

/-- A cell that is not DISABLED is disabled, after a SILENCE to its unit. -/
theorem exec_cellDisable {tag : Nat} (ht : tag < 256) (hlaw : GrantLaw s) (hr : Ready 0x21 s)
    (hs : (s.cell c).state ≠ .disabled) :
    Next (exec (.cellDisable tag c.val) s) fun t =>
      Dropped c .disabled s t ∧ Answered s t tag 0x21 (be 1 c.val) .ok [] ∧ (s.sentSince t).head? = some (c, .silence)
        ∧ t.shipTime = s.shipTime := by
  have hbeside := dropCell_beside .disabled c (silenceSent tag c s)
  have hdropped : Dropped c .disabled (silenceSent tag c s) (dropCell .disabled c (silenceSent tag c s)) :=
    dropCell_dropped (silenceSent_grantLaw hlaw) (by decide)
  refine ⟨_, congrArg done (request_cellDisable ht hr hs), ?_, ?_, ?_, ?_⟩
  · exact dropped_of_view hdropped (silenceSent_droppedView tag c s).symm
      ((refreshLamp_droppedView _).trans (appendReply_droppedView ..))
  · obtain ⟨hwaiting, -⟩ := hr
    exact appendReply_answered hwaiting (hbeside.part (fun u => u.ctp.inbound) fun _ => rfl)
      (hbeside.part (fun u => u.ctp.outbound) fun _ => rfl) .ok []
  · obtain ⟨more, hmore⟩ := hbeside.deck
    have hdeck : (dropCell .disabled c (silenceSent tag c s)).ports.deck = s.ports.deck ++ (c, .silence) :: more := by
      rw [← hmore, silenceSent_deck, List.append_assoc]
      rfl
    rw [State.sentSince, refreshLamp_ports, appendReply_ports, hdeck, List.drop_left]
    rfl
  · rw [refreshLamp_shipTime, appendReply_shipTime, hbeside.shipTime, silenceSent_shipTime]

end

/-! ### The obligation -/

/-- Settles O43: the expiries by what the timer and the supervision say, the requests by the cell's state. -/
theorem cellLossAndDisable : Obligations.CellLossAndDisable := by
  intro s c tag cell ht hcell
  refine ⟨fun hlaw d hd hgood hmissed => ?_, fun d hd h => ?_, fun hlaw d hd => ?_, fun hlaw d hd => ?_,
    fun hlaw hr hs => exec_cellDisable ht hlaw hr hs, fun hr hs => ?_, fun hr habove => ?_, fun hr habove => ?_,
    fun hr => ?_, fun h => ?_, fun h => ?_, fun h => ?_⟩
  · rw [exec_heartbeatTimerExpiry, done_atExpiry_some hd, supervise_lost (s := reachDeadline d s) hgood hmissed]
    exact ⟨_, rfl, loseCell_dropped hlaw rfl, loseCell_cellLost .., loseCell_shipTime ..⟩
  · rw [exec_heartbeatTimerExpiry, done_atExpiry_some hd, supervise_armed (s := reachDeadline d s) h]
    rfl
  · rw [exec_retuneTimerExpiry, done_atExpiry_some hd]
    exact ⟨_, rfl, loseCell_dropped hlaw rfl, loseCell_cellLost .., loseCell_shipTime ..⟩
  · rw [exec_silenceTimerExpiry, done_atExpiry_some hd]
    exact ⟨_, rfl, loseCell_dropped hlaw rfl, loseCell_cellLost ..,
      loseCell_condsKept _ _ _ (setCond_condSet_self ..), loseCell_shipTime ..⟩
  · exact replies_of_arrived ht hr (bodyFits_of_length rfl (by decide) (by simp) (by simp)) rfl (cellDisable_disabled hs)
  · exact replies_of_arrived ht hr (bodyFits_of_length rfl (by decide) (by simp) (by simp)) rfl (cellDisable_badArg habove _)
  · exact replies_of_arrived ht hr (bodyFits_of_length rfl (by decide) (by simp) (by simp)) rfl (cellEnable_badArg habove _)
  · split
    next hs =>
      exact replies_of_arrived ht hr (bodyFits_of_length rfl (by decide) (by simp) (by simp)) rfl (cellEnable_disabled hs)
    next hs =>
      exact replies_of_arrived ht hr (bodyFits_of_length rfl (by decide) (by simp) (by simp)) rfl (cellEnable_enabled hs)
  · rw [exec_heartbeatTimerExpiry, done_atExpiry_none h]
    rfl
  · rw [exec_retuneTimerExpiry, done_atExpiry_none h]
    rfl
  · rw [exec_silenceTimerExpiry, done_atExpiry_none h]
    rfl

end Sys2Proof.Proofs
end

section
/-! SUPPORT. What lies beyond the contexts: operations that write neither the contexts, the attached counts, the tickets, the hold
list, the registration queue nor the outstanding table (the ports, the zones, the links, the cells and the capacity). -/

namespace Sys2Proof.Proofs

open Sys2Proof.Machine

/-- Nothing changes that a law about contexts, tickets or registrations reads: the contexts, the attached counts, the tickets with
the hold list, the registration queue and the outstanding table. -/
structure Beyond (s t : State) : Prop where
  contexts : t.sbt.contexts = s.sbt.contexts
  attached (c : CellId) : (t.cell c).attached = (s.cell c).attached
  tkq : t.tkq = s.tkq
  queue : t.rge.queue = s.rge.queue
  outstanding : t.rge.outstanding = s.rge.outstanding

namespace Beyond

variable {s t u : State}

theorem refl (s : State) : Beyond s s := ⟨rfl, fun _ => rfl, rfl, rfl, rfl⟩

theorem trans (h : Beyond s t) (g : Beyond t u) : Beyond s u where
  contexts := g.contexts.trans h.contexts
  attached c := (g.attached c).trans (h.attached c)
  tkq := g.tkq.trans h.tkq
  queue := g.queue.trans h.queue
  outstanding := g.outstanding.trans h.outstanding

/-- An operation that keeps the records of the SBT, the DUC, the TKQ and the RGE. -/
theorem of_parts (sbt : t.sbt = s.sbt) (duc : t.duc = s.duc) (tkq : t.tkq = s.tkq) (rge : t.rge = s.rge) : Beyond s t :=
  ⟨by rw [sbt], fun c => by simp only [State.cell, duc], tkq, by rw [rge], by rw [rge]⟩

theorem ite {p : Prop} [Decidable p] (h : Beyond s t) (g : Beyond s u) : Beyond s (if p then t else u) := by
  split
  · exact h
  · exact g

end Beyond

/-- A loop whose every turn stays beyond the contexts. -/
theorem forEach_beyond {α : Type} {items : List α} {f : α → State → State} (h : ∀ a t, Beyond t (f a t)) (s : State) :
    Beyond s (forEach items f s) :=
  forEach_keeps (property := Beyond s) (fun a _ t ht => ht.trans (h a t)) (.refl s)

/-! ### Single updates -/

theorem modCell_beyond {c : CellId} {f : Cell → Cell} (hf : ∀ x, (f x).attached = x.attached) (s : State) :
    Beyond s (modCell c f s) := by
  refine ⟨rfl, fun d => ?_, rfl, rfl, rfl⟩
  rw [modCell, setCell_cell]
  split
  next h => rw [hf, h]
  next => rfl

theorem refreshLamp_beyond (s : State) : Beyond s (refreshLamp s) :=
  ⟨by simp, fun c => by simp, by simp, by simp, by simp⟩

theorem setCond_beyond (c : Condition) (s : State) : Beyond s (setCond c s) := .of_parts rfl rfl rfl rfl

theorem reachDeadline_beyond (d : Nat) (s : State) : Beyond s (reachDeadline d s) := .of_parts rfl rfl rfl rfl

theorem emitDeck_beyond (c : CellId) (f : DeckFrame) (s : State) : Beyond s (emitDeck c f s) := .of_parts rfl rfl rfl rfl

theorem sendDeck_beyond (c : CellId) (f : DeckFrame) (s : State) : Beyond s (sendDeck c f s) :=
  .ite (emitDeck_beyond ..) (.refl s)

theorem sendTerminal_beyond (l : LinkId) (f : TermFrame) (s : State) : Beyond s (sendTerminal l f s) :=
  .of_parts rfl rfl rfl rfl

theorem setCtp_beyond (p : Ctp) (s : State) : Beyond s { s with ctp := p } := .of_parts rfl rfl rfl rfl

theorem setPzu_beyond (p : Pzu) (s : State) : Beyond s { s with pzu := p } := .of_parts rfl rfl rfl rfl

theorem setLkm_beyond (m : Lkm) (s : State) : Beyond s { s with lkm := m } := .of_parts rfl rfl rfl rfl

theorem setMail_beyond (m : Mail) (s : State) : Beyond s { s with mail := m } := .of_parts rfl rfl rfl rfl

theorem setCap_beyond (p : Cap) (s : State) : Beyond s { s with cap := p } := .of_parts rfl rfl rfl rfl

theorem setRing_beyond (ring : List Epoch) (s : State) : Beyond s (setRing ring s) := .of_parts rfl rfl rfl rfl

theorem setRetuneList_beyond (l : List CellId) (s : State) : Beyond s (setRetuneList l s) :=
  ⟨rfl, fun _ => rfl, rfl, rfl, rfl⟩

theorem setHeldJoins_beyond (l : List (CellId × Nat)) (s : State) :
    Beyond s { s with duc := { s.duc with heldJoins := l } } := ⟨rfl, fun _ => rfl, rfl, rfl, rfl⟩

theorem releaseGenerations_beyond (s : State) : Beyond s (releaseGenerations s) := ⟨rfl, fun _ => rfl, rfl, rfl, rfl⟩

theorem countRetired_beyond (r : RetireReason) (s : State) : Beyond s (countRetired r s) := by
  cases r <;> exact .of_parts rfl rfl rfl rfl

theorem joinAttention_beyond (k : Nat) (r : AttentionReason) (s : State) : Beyond s (joinAttention k r s) := by
  unfold joinAttention
  split
  · exact .of_parts rfl rfl rfl rfl
  · exact .ite (.of_parts rfl rfl rfl rfl) (.refl s)

/-! ### The control port (R181 to R192) -/

theorem portError_beyond (c : PortCause) (s : State) : Beyond s (portError c s) := .of_parts rfl rfl rfl rfl

theorem arrive_beyond (tag code : Nat) (body : List Byte) (s : State) : Beyond s (arrive tag code body s) :=
  .ite (setCtp_beyond _ s) (.ite (setCtp_beyond _ s) (portError_beyond ..))

theorem appendReply_beyond (tag : Nat) (status : Status) (body : List Byte) (s : State) :
    Beyond s (appendReply tag status body s) := .of_parts rfl rfl rfl rfl

theorem answerMalformed_beyond (n : Nat) (s : State) : Beyond s (answerMalformed n s) := by
  have htaken (e : InEntry) (t : State) : Beyond t (takeRequest e (answer .badArg) t) :=
    .ite (appendReply_beyond ..) (.ite (appendReply_beyond ..) (appendReply_beyond ..))
  induction n generalizing s with
  | zero => exact .refl s
  | succ n ih =>
    unfold answerMalformed
    refine .ite (.refl s) ?_
    split
    · exact .refl s
    · exact .ite (.refl s) ((htaken ..).trans (ih _))

theorem answerUnowned_beyond (s : State) : Beyond s (answerUnowned s) := answerMalformed_beyond ..

theorem huntByte_beyond (b : Byte) (s : State) : Beyond s (huntByte b s) := .ite (setCtp_beyond _ s) (.refl s)

theorem receiveByte_beyond (s : State) (b : Byte) : Beyond s (receiveByte s b) := by
  have hcomplete (taken : List Byte) : Beyond s (frameComplete taken s) := by
    unfold frameComplete
    refine .ite (portError_beyond ..) ?_
    split
    · exact .ite ((setCtp_beyond _ s).trans (arrive_beyond ..)) (portError_beyond ..)
    · exact setCtp_beyond _ s
  unfold receiveByte
  split
  · exact huntByte_beyond ..
  · exact .ite ((portError_beyond ..).trans (huntByte_beyond ..))
      (.ite (setCtp_beyond _ s) (.ite (portError_beyond ..) (.ite (setCtp_beyond _ s) (hcomplete _))))

theorem emitBytes_beyond (bytes : List Byte) (s : State) : Beyond s (emitBytes bytes s) := .of_parts rfl rfl rfl rfl

theorem headLeaves_beyond (s : State) : Beyond s (headLeaves s) := .of_parts (by simp) (by simp) (by simp) (by simp)

theorem clockBytes_beyond (bytes : List Byte) (s : State) : Beyond s (bytes.foldl clockByte s) := by
  have hclock (t : State) : Beyond t (clockOut t) := .of_parts (by simp) (by simp) (by simp) (by simp)
  induction bytes generalizing s with
  | nil => exact .refl s
  | cons b rest ih => exact (((hclock s).trans (receiveByte_beyond ..)).trans (answerUnowned_beyond _)).trans (ih _)

theorem unlock_beyond (code : Code) (s : State) : Beyond s (unlock code s).state := by
  unfold unlock
  split
  · exact .refl s
  · exact .refl s
  · split
    · exact setCtp_beyond _ s
    · exact .ite (setCtp_beyond _ s) (setCtp_beyond _ s)

theorem lockPort_beyond (s : State) : Beyond s (lockPort s).state := by
  unfold lockPort
  split
  · exact .refl s
  · exact setCtp_beyond _ s

theorem loadBegin_beyond (kind total checksum : Nat) (s : State) : Beyond s (loadBegin kind total checksum s).state := by
  unfold loadBegin
  split
  · exact .refl s
  · split
    · exact setCtp_beyond _ s
    · exact .refl s

theorem loadData_beyond (offset : Nat) (bytes : List Byte) (s : State) : Beyond s (loadData offset bytes s).state := by
  unfold loadData
  split
  · exact .refl s
  · split
    · exact .refl s
    · exact setCtp_beyond _ s

theorem storeSave_beyond (s : State) : Beyond s (storeSave s).state := by
  unfold storeSave
  split
  · exact .refl s
  · exact .of_parts rfl rfl rfl rfl

theorem lampSet_beyond (pattern : Nat) (s : State) : Beyond s (lampSet pattern s).state := by
  have hmode (mode : Option Pattern) : Beyond s (setLamp mode s) := by
    cases mode <;> exact ⟨rfl, fun _ => rfl, rfl, rfl, rfl⟩
  unfold lampSet
  split
  · exact .refl s
  · exact hmode _

/-! ### Zones and tables (R4 to R15, R98, R120, R152, R189) -/

theorem changeZone_beyond (cause : ChangeCause) (zone : ZoneId) (s : State) : Beyond s (changeZone cause zone s) :=
  .of_parts rfl rfl rfl rfl

theorem fixRule_beyond (lat lon : Int) (quality fixTime : Nat) (s : State) :
    Beyond s (fixRule lat lon quality fixTime s).state := by
  have hrecord : Beyond s (recordFix lat lon quality (fixTime % 4294967296) s) :=
    .ite ((setPzu_beyond _ s).trans (setCond_beyond ..)) (setPzu_beyond _ s)
  have hconfirm (zone : ZoneId) (t : State) : Beyond t (confirm zone t) :=
    .ite (setPzu_beyond _ t) (.ite ((setPzu_beyond _ t).trans (changeZone_beyond ..)) (setPzu_beyond _ t))
  unfold fixRule
  split
  · exact .refl s
  · split
    · exact .refl s
    · dsimp only
      split
      · exact hrecord.trans (hconfirm ..)
      · exact hrecord

theorem zoneForce_beyond (zone : Nat) (s : State) : Beyond s (zoneForce zone s).state := by
  unfold zoneForce
  split
  · exact .refl s
  · exact .ite (setPzu_beyond _ s) (.of_parts rfl rfl rfl rfl)

theorem zoneRelease_beyond (s : State) : Beyond s (zoneRelease s).state := by
  unfold zoneRelease
  split
  · exact .refl s
  · exact setPzu_beyond _ s

theorem settleTable_beyond (t : ZoneTable) (s : State) : Beyond s (settleTable t s) := by
  unfold settleTable
  dsimp only
  split
  · exact .ite (.of_parts rfl rfl rfl rfl) (.of_parts rfl rfl rfl rfl)
  · exact .of_parts rfl rfl rfl rfl

theorem commitTable_beyond {kind : TableKind} {bs : List Byte} {s u : State} {body : List Byte}
    (h : commitTable kind bs s = some (u, body)) : Beyond s u := by
  cases kind with
  | zone =>
    obtain ⟨t, -, he⟩ := Option.map_eq_some_iff.mp h
    obtain ⟨rfl, -⟩ := Prod.mk.inj he
    exact settleTable_beyond t s
  | partner =>
    obtain ⟨t, -, he⟩ := Option.map_eq_some_iff.mp h
    obtain ⟨rfl, -⟩ := Prod.mk.inj he
    exact ⟨rfl, fun _ => rfl, rfl, rfl, rfl⟩
  | tariff =>
    obtain ⟨t, -, he⟩ := Option.map_eq_some_iff.mp h
    obtain ⟨rfl, -⟩ := Prod.mk.inj he
    exact .of_parts rfl rfl rfl rfl
  | homeGroup =>
    obtain ⟨t, -, he⟩ := Option.map_eq_some_iff.mp h
    obtain ⟨rfl, -⟩ := Prod.mk.inj he
    exact ⟨rfl, fun _ => rfl, rfl, rfl, rfl⟩

theorem loadCommit_beyond (s : State) : Beyond s (loadCommit s).state := by
  have hclosed : Beyond s (setLoad none s) := setCtp_beyond _ s
  unfold loadCommit
  split
  next => exact .refl s
  next =>
    dsimp only
    split
    next =>
      split
      next => exact hclosed
      next hcommit => exact hclosed.trans (commitTable_beyond hcommit)
    next => exact hclosed

/-! ### Capacity and cells (R45 to R56, R79 to R92) -/

theorem recompute_beyond (s : State) : Beyond s (recompute s) := by
  obtain ⟨hframe, hcell⟩ := recompute_onlyGrants s
  exact ⟨by rw [hframe], fun c => by rw [hcell], by rw [hframe], by rw [hframe], by rw [hframe]⟩

theorem leaveServing_beyond (c : CellId) (s : State) : Beyond s (leaveServing c s) :=
  (modCell_beyond (f := fun x => { x with grant := 0 }) (fun _ => by rfl) s).trans (recompute_beyond _)

theorem takeCapacity_beyond (n : Nat) (s : State) : Beyond s (takeCapacity n s) :=
  .ite (setCap_beyond _ s) ((setCap_beyond _ s).trans (recompute_beyond _))

theorem capRestartEffect_beyond (s : State) : Beyond s (capRestartEffect s) := by
  have hzero : Beyond s (zeroGrants s) := ⟨rfl, fun c => by rw [zeroGrants_cell], rfl, rfl, rfl⟩
  exact (hzero.trans (setCap_beyond _ _)).trans (recompute_beyond _)

theorem countBad_beyond (c : CellId) (s : State) : Beyond s (countBad c s) := modCell_beyond (fun _ => by rfl) s

theorem loadIdle_beyond (c : CellId) (s : State) : Beyond s (loadIdle c s) :=
  modCell_beyond (f := fun x => { x with idleTimer := some (s.deadline (s.idleLoad x.power)) }) (fun _ => by rfl) s

theorem armHeartbeat_beyond (c : CellId) (s : State) : Beyond s (armHeartbeat c s) :=
  modCell_beyond (f := fun x => { x with heartbeatTimer := some (s.deadline s.settings.heartbeatPeriod) }) (fun _ => by rfl) s

theorem wakeCell_beyond (c : CellId) (s : State) : Beyond s (wakeCell c s) :=
  (((sendDeck_beyond ..).trans
    (modCell_beyond (f := fun x => { x with state := .serving, deepTimer := none }) (fun _ => by rfl) _)).trans
      (loadIdle_beyond ..)).trans (recompute_beyond _)

theorem dozeCell_beyond (c : CellId) (s : State) : Beyond s (dozeCell c s) :=
  ((sendDeck_beyond c .dozeLight s).trans
    (modCell_beyond (f := fun x =>
      { x with state := .doze, idleTimer := none, deepTimer := some (s.deadline s.settings.deepTime) }) (fun _ => by rfl) _)).trans
    (leaveServing_beyond ..)

theorem takeEvent_beyond (c : CellId) (cls : EventClass) (deepWake : Bool) (s : State) :
    Beyond s (takeEvent c cls deepWake s) := by
  unfold takeEvent
  split
  · exact loadIdle_beyond ..
  · exact wakeCell_beyond ..
  · exact .ite (wakeCell_beyond ..) (.refl s)
  · exact modCell_beyond (fun _ => by rfl) s
  · exact .refl s

theorem takeActivity_beyond (c : CellId) (kinds : List Nat) (s : State) : Beyond s (takeActivity c kinds s) := by
  have hkind (kind : Nat) (t : State) : Beyond t (takeKind c kind t) := by
    unfold takeKind
    split
    · exact .refl t
    · exact takeEvent_beyond ..
  unfold takeActivity
  split
  case h_4 | h_5 => exact .refl s
  case h_1 | h_2 | h_3 => exact countBad_beyond ..
  all_goals exact forEach_beyond hkind s

theorem dispatchCell_beyond (c : CellId) (s : State) : Beyond s (dispatchCell c s) := by
  unfold dispatchCell
  extract_lets beacon t
  have hsent : Beyond s t := ((setRetuneList_beyond _ s).trans (sendDeck_beyond ..)).trans (modCell_beyond (fun _ => by rfl) _)
  exact .ite (hsent.trans (leaveServing_beyond ..)) hsent

theorem dispatchWhile_beyond (limit n : Nat) (s : State) : Beyond s (dispatchWhile limit n s) := by
  induction n generalizing s with
  | zero => exact .refl s
  | succ n ih =>
    unfold dispatchWhile
    split
    · exact .refl s
    · exact .ite ((dispatchCell_beyond ..).trans (ih _)) (.refl s)

theorem dispatch_beyond (s : State) : Beyond s (dispatch s) := dispatchWhile_beyond ..

theorem resumeCell_beyond (beacon : Option Beacon) (c : CellId) (s : State) : Beyond s (resumeCell beacon c s) :=
  (((sendDeck_beyond ..).trans
    (modCell_beyond (f := fun x => { x with state := .serving, beacon := beacon }) (fun _ => by rfl) _)).trans
      (loadIdle_beyond ..)).trans (recompute_beyond _)

theorem retuneOrder_beyond (beacon : Option Beacon) (s : State) : Beyond s (retuneOrder beacon s) := by
  have hlisted (t : State) : Beyond t (listStale beacon t) := (setRetuneList_beyond _ t).trans (setRetuneList_beyond ..)
  unfold retuneOrder
  extract_lets resumed
  have hresumed : Beyond s resumed := forEach_beyond (resumeCell_beyond beacon) s
  exact (hresumed.trans (hlisted _)).trans (dispatch_beyond _)

theorem takeRetuned_beyond (c : CellId) (beacon : Beacon) (s : State) : Beyond s (takeRetuned c beacon s) := by
  unfold takeRetuned
  split
  · extract_lets t
    have ht : Beyond s t := ((modCell_beyond (fun _ => by rfl) s).trans (loadIdle_beyond ..)).trans (recompute_beyond _)
    exact .trans (.ite ht (ht.trans (setRetuneList_beyond ..))) (dispatch_beyond _)
  · exact countBad_beyond ..

theorem silenceOrder_beyond (s : State) : Beyond s (silenceOrder s) := by
  have hcell (c : CellId) (t : State) : Beyond t (silenceCell c t) := by
    unfold silenceCell
    extract_lets u
    have hu : Beyond t u := (sendDeck_beyond ..).trans (modCell_beyond (fun _ => by rfl) _)
    exact .ite (hu.trans (leaveServing_beyond ..)) hu
  exact (setRetuneList_beyond ..).trans (forEach_beyond hcell _)

theorem takeHeartbeat_beyond (c : CellId) (phase : Phase) (power : Power) (demand : Nat) (s : State) :
    Beyond s (takeHeartbeat c phase power demand s) := by
  have hpower (t : State) : Beyond t (changePower c power t) := modCell_beyond (fun _ => by rfl) t
  unfold takeHeartbeat
  extract_lets x d t
  have ht : Beyond s t := (modCell_beyond (fun _ => by rfl) s).trans (hpower _)
  exact .ite (.ite (ht.trans (setCap_beyond _ t)) ht) (countBad_beyond ..)

theorem ducRestartEffect_beyond (s : State) : Beyond s (ducRestartEffect s) := by
  have hcell (c : CellId) (t : State) : Beyond t (restartCell c t) := by
    have hrejoin : Beyond t (modCell c Cell.restarted (emitDeck c .rejoin t)) :=
      (emitDeck_beyond ..).trans (modCell_beyond (fun _ => by rfl) _)
    exact .ite (.refl t) (.ite (hrejoin.trans (leaveServing_beyond ..)) hrejoin)
  exact (setRetuneList_beyond ..).trans (forEach_beyond hcell _)

theorem cellEnable_beyond (cell : Nat) (s : State) : Beyond s (cellEnable cell s).state := by
  unfold cellEnable
  split
  · exact .refl s
  · split
    · exact modCell_beyond (f := fun x => { x with state := .absent }) (fun _ => by rfl) s
    · exact .refl s

/-! ### Links (R23, R34, R40) -/

theorem enterState_beyond (l : LinkId) (state : LinkState) (s : State) : Beyond s (enterState l state s) := by
  refine (setLkm_beyond _ s : Beyond s (modLink l (Link.entering state s.shipTime s.settings.drainLimit) s)).trans ?_
  cases state with
  | engaging | draining => exact sendTerminal_beyond ..
  | fault => exact .trans (.ite (sendTerminal_beyond ..) (.refl _)) (setCond_beyond ..)
  | off | down | probing | ready | carrying => exact .refl _

theorem carryingChanged_beyond (s : State) : Beyond s (carryingChanged s) := by
  have hclass (t : State) : Beyond t (handClass t) := .ite (.refl t) (.of_parts rfl rfl rfl rfl)
  exact ((setMail_beyond _ s).trans (hclass _)).trans (setCond_beyond ..)

theorem selectUnder_beyond (kinds : KindSet) (s : State) : Beyond s (selectUnder kinds s) := by
  unfold selectUnder
  refine .ite (.refl s) ?_
  split
  · exact .refl s
  · split
    · exact enterState_beyond ..
    · exact .ite (enterState_beyond ..) (.refl s)

theorem select_beyond (s : State) : Beyond s (select s) := selectUnder_beyond ..

theorem sendProbe_beyond (l : LinkId) (s : State) : Beyond s (sendProbe l s) :=
  .ite ((setLkm_beyond _ s).trans (sendTerminal_beyond ..)) (.refl s)

/-! ### Queries (R16, R42, R74, R117, R173, R194) -/

/-- A rule that answers without touching the state. -/
theorem query_beyond {act : State → Answer} {s : State} (h : (act s).state = s) : Beyond s (act s).state := h.symm ▸ .refl s

theorem zoneQuery_state (zone : Option Nat) (s : State) : (zoneQuery zone s).state = s := by
  unfold zoneQuery
  split
  · rfl
  · split <;> rfl

theorem linkQuery_state (link : Nat) (s : State) : (linkQuery link s).state = s := by
  unfold linkQuery
  split <;> rfl

theorem subQuery_state (k : Nat) (s : State) : (subQuery k s).state = s := by
  unfold subQuery
  split
  · rfl
  · split
    · rfl
    · split <;> rfl

theorem subFind_state (sid : Sid) (s : State) : (subFind sid s).state = s := by
  unfold subFind
  split <;> rfl

theorem ticketRead_state (max : Nat) (s : State) : (ticketRead max s).state = s := by
  unfold ticketRead
  split <;> rfl

theorem statusRead_state (block : Nat) (s : State) : (statusRead block s).state = s := by
  unfold statusRead
  split <;> rfl

theorem settingsGet_state (setting : Nat) (s : State) : (settingsGet setting s).state = s := by
  unfold settingsGet
  split <;> rfl

theorem cellQuery_beyond (cell clear : Nat) (s : State) : Beyond s (cellQuery cell clear s).state := by
  unfold cellQuery
  split
  · exact .refl s
  · split
    · exact .refl s
    · split
      · exact .refl s
      · split
        · exact modCell_beyond (f := fun x => { x with badFrames := 0 }) (fun _ => by rfl) s
        · exact .refl s

end Sys2Proof.Proofs
end

section
/-! SUPPORT. A law of contexts, tickets and registrations under every command: what the operations on one context keep, every command
and every step keeps. -/

namespace Sys2Proof.Proofs

open Sys2Proof.Machine

/-- From one state to another a property is kept. -/
structure Passes (P : State → Prop) (s t : State) : Prop where
  keeps : P s → P t

namespace Passes

variable {P : State → Prop} {s t u : State}

theorem refl (s : State) : Passes P s s := ⟨id⟩

theorem trans (h : Passes P s t) (g : Passes P t u) : Passes P s u := ⟨g.keeps ∘ h.keeps⟩

theorem ite {p : Prop} [Decidable p] (h : p → Passes P s t) (g : ¬p → Passes P s u) :
    Passes P s (if p then t else u) := by
  split
  next hp => exact h hp
  next hp => exact g hp

end Passes

/-- The operations on contexts, tickets and registrations of which all commands are made keep a property of the state; it holds of a
part with no context, no ticket and no registration, and does not read what lies beyond them. -/
structure ContextKeeps (P : State → Prop) : Prop where
  beyond {s t : State} : Beyond s t → Passes P s t
  fresh {s : State} : s.sbt.contexts = [] → (∀ c, (s.cell c).attached = 0) → s.tkq.tickets = [] → s.tkq.holdList = [] →
    s.rge.queue = [] → s.rge.outstanding = [] → P s
  close (k : Nat) (reason : CloseReason) (s : State) : Passes P s (closeAccumulator k reason s)
  sweep (k : Nat) (s : State) : Passes P s (sweepContext k s)
  orphan (k : Nat) (s : State) : Passes P s (orphanContext k s)
  complete {k : Nat} {x : Context} {s : State} : s.context k = some x → x.awaitsCounts = true →
    Passes P s (completeCounts k s)
  release {k : Nat} {x : Context} {s : State} (reason : LeaveReason) : s.context k = some x → x.state ≠ .leaving →
    Passes P s (releaseContext k reason s)
  grace (k : Nat) (s : State) : Passes P s (graceOver k s)
  serviceOff (k : Nat) (s : State) : Passes P s (serviceOffContext k s)
  restart (k : Nat) (s : State) : Passes P s (restartContext k s)
  serve {k : Nat} {rest : List Nat} {s : State} : s.tkq.holdList = k :: rest → s.gateAdmits = true →
    Passes P s (serveContext k s)
  dropTickets (n : Nat) (s : State) : Passes P s { s with tkq := { s.tkq with tickets := s.tkq.tickets.drop n } }
  entry (tag : Nat) (e : UsageEntry) (s : State) : Passes P s (takeEntry tag e s)
  grant (k mode amount : Nat) (s : State) : Passes P s (quotaGrant k mode amount s).state
  build {k : Nat} {rest : List Nat} {l : LinkId} {s : State} : s.rge.queue = k :: rest → s.carryingLink = some l →
    s.rge.outstanding.length < 32 → Passes P s (buildRequest k l { s with rge := { s.rge with queue := rest } })
  removeEntry (correlation : Nat) (s : State) : Passes P s (removeEntry correlation s)
  fail (k : Nat) (s : State) : Passes P s (failAttempt k s)
  answer (o : Outstanding) (accept : Bool) (cause : Nat) (s : State) : Passes P s (takeAnswer o accept cause s)
  reevaluate (k : Nat) (s : State) : Passes P s (reevaluateContext k s)
  reregister (k : Nat) (s : State) : Passes P s (subReregister k s).state
  rgeRestart (s : State) : Passes P s (rgeRestartEffect s)
  reattach {k : Nat} {x : Context} {sid : Sid} {s : State} (c : CellId) : s.holderOf sid = some (k, x) →
    Passes P s (reattach k x c s)
  newAttach (c : CellId) (sid : Sid) (s : State) : Passes P s (newAttach c sid s)

section

variable {P : State → Prop}

/-- What every turn of a loop keeps, the loop keeps. -/
theorem forEach_passes {α : Type} {items : List α} {f : α → State → State} (h : ∀ a t, Passes P t (f a t)) (s : State) :
    Passes P s (forEach items f s) := ⟨fun hs => forEach_keeps (fun a _ t => (h a t).keeps) hs⟩

theorem atExpiry_passes {v : Timer} {effect : State → State} (hP : ∀ {a b}, Beyond a b → Passes P a b)
    (h : ∀ t, Passes P t (effect t)) (s : State) : Passes P s (atExpiry v effect s) := by
  rcases atExpiry_cases v effect s with ⟨-, he⟩ | ⟨d, -, he⟩ <;> rw [he]
  · exact .refl s
  · exact (hP (reachDeadline_beyond d s)).trans (h _)

/-- Where taking a head from the registration queue keeps a property, taking as many as may be sent does (R123). -/
theorem sendQueued_passes_of_build
    (build : ∀ {k rest l} {s : State}, s.rge.queue = k :: rest → s.carryingLink = some l → s.rge.outstanding.length < 32 →
      Passes P s (buildRequest k l { s with rge := { s.rge with queue := rest } }))
    (s : State) : Passes P s (sendQueued s) := by
  unfold sendQueued
  generalize s.rge.queue.length = n
  induction n generalizing s with
  | zero => exact .refl s
  | succ n ih =>
    unfold sendWhile
    split
    next hqueue hlink => exact .ite (fun hroom => (build hqueue hlink hroom).trans (ih _)) fun _ => .refl s
    next => exact .refl s

end

namespace ContextKeeps

variable {P : State → Prop} (K : ContextKeeps P)

include K

/-! ### Retirement and striking (R144, R146, R147) -/

theorem retireOldest_passes (r : RetireReason) (s : State) : Passes P s (retireOldest r s) := by
  unfold retireOldest
  split
  · exact ((K.beyond (setRing_beyond ..)).trans (forEach_passes K.sweep _)).trans
      (K.beyond ((releaseGenerations_beyond _).trans (countRetired_beyond ..)))
  · exact .refl s

theorem retirementCheck_passes (s : State) : Passes P s (retirementCheck s) := by
  unfold retirementCheck
  generalize s.epc.ring.length = n
  induction n generalizing s with
  | zero => exact .refl s
  | succ n ih =>
    unfold retireWhile
    split
    · split
      · exact (K.retireOldest_passes ..).trans (ih _)
      · exact (K.retireOldest_passes ..).trans (ih _)
      · exact .refl s
    · exact .refl s

/-- A change of the ring with the retirement check after it. -/
theorem checkRing_passes (ring : List Epoch) (s : State) : Passes P s (retirementCheck (setRing ring s)) :=
  (K.beyond (setRing_beyond ring s)).trans (K.retirementCheck_passes _)

theorem openEpoch_passes (reason : OpenReason) (s : State) : Passes P s (openEpoch reason s) := by
  have hforce : Passes P s (forceOldest s) := by
    unfold forceOldest
    split
    · exact ((K.beyond ((setRing_beyond ..).trans (setCond_beyond ..))).trans (K.retireOldest_passes ..)).trans
        (K.retirementCheck_passes _)
    · exact .refl s
  unfold openEpoch
  extract_lets s1 e s2 s3
  have hroom : Passes P s s1 := .ite (fun _ => hforce) fun _ => .refl s
  have hopened : Passes P s s3 := hroom.trans
    (K.beyond ((setRing_beyond _ s1).trans (forEach_beyond (fun c t => sendDeck_beyond c (.cut e.number) t) _)))
  exact .ite (fun _ => hopened.trans (K.retirementCheck_passes _)) fun _ => hopened

theorem cutTimerExpiry_passes (epoch : Nat) (s : State) (t : Timer) :
    Passes P s
      (atExpiry t
        (fun t => retirementCheck
          (setCond .epochTimeout (setRing (t.epc.ring.map (fun f => if f.number = epoch then f.timeOut else f)) t))) s) :=
  atExpiry_passes K.beyond
    (fun _ => (K.beyond ((setRing_beyond ..).trans (setCond_beyond ..))).trans (K.retirementCheck_passes _)) s

/-! ### Cells (R62 to R76, R89, R92, R111, R114) -/

theorem orphanCell_passes (c : CellId) (s : State) : Passes P s (orphanCell c s) :=
  forEach_passes (fun k t => .ite (fun _ => K.orphan k t) fun _ => .refl t) s

theorem cellCountsComplete_passes (c : CellId) (s : State) : Passes P s (cellCountsComplete c s) := by
  refine forEach_passes (fun k t => ?_) s
  split
  next => exact .refl t
  next x hx => exact .ite (fun h => K.complete hx (Bool.and_eq_true_iff.mp h).2) fun _ => .refl t

theorem dropCell_passes (state : CellState) (c : CellId) (s : State) : Passes P s (dropCell state c s) := by
  unfold dropCell
  extract_lets before s1 s2 s3
  have h1 : Beyond s s1 := (modCell_beyond (fun _ => by rfl) s).trans (setRetuneList_beyond ..)
  have h2 : Beyond s s2 := .ite (h1.trans (dispatch_beyond _)) h1
  have h3 : Beyond s s3 := .ite (h2.trans (leaveServing_beyond ..)) h2
  exact ((K.beyond h3).trans (K.checkRing_passes ..)).trans (K.orphanCell_passes c _)

theorem loseCell_passes (c : CellId) (s : State) : Passes P s (loseCell c s) :=
  (K.dropCell_passes ..).trans (K.beyond (setCond_beyond ..))

theorem acceptJoin_passes (c : CellId) (serial : Nat) (s : State) : Passes P s (acceptJoin c serial s) := by
  have hreset : Beyond s (modCell c (Cell.accepted serial) (leaveRetuneList c s)) :=
    (setRetuneList_beyond ..).trans (modCell_beyond (fun _ => by rfl) _)
  have hstruck : Passes P s (joinStruck c serial s) :=
    .ite (fun _ => K.beyond hreset) fun _ => (K.beyond hreset).trans (K.checkRing_passes ..)
  have hserving (t : State) : Beyond t (acceptedServing c t) :=
    ((modCell_beyond (fun _ => by rfl) t).trans (emitDeck_beyond ..)).trans (loadIdle_beyond ..)
  have hsilent (t : State) : Beyond t (acceptedSilent c t) :=
    (modCell_beyond (fun _ => by rfl) t).trans (emitDeck_beyond ..)
  rw [acceptJoin_branches]
  exact hstruck.trans (K.beyond (.trans
    (.ite (.ite (hserving _) ((hserving _).trans (recompute_beyond _))) (hsilent _)) (armHeartbeat_beyond ..)))

theorem acceptAgain_passes (c : CellId) (s : State) : Passes P s (acceptAgain c s) := by
  unfold acceptAgain
  extract_lets t
  have ht : Beyond s t := ((emitDeck_beyond ..).trans (modCell_beyond (fun _ => by rfl) _)).trans (armHeartbeat_beyond ..)
  exact K.beyond (.ite (ht.trans (emitDeck_beyond ..)) ht)

theorem restartJoin_passes (c : CellId) (serial : Nat) (s : State) : Passes P s (restartJoin c serial s) := by
  have hrestarted : Passes P s (unitRestarted c s) := by
    unfold unitRestarted
    extract_lets s1 s2
    have h1 : Beyond s s1 := .ite (modCell_beyond (fun _ => by rfl) s) (.refl s)
    have h2 : Passes P s s2 := (K.beyond h1).trans (K.orphanCell_passes c _)
    exact .ite (fun _ => h2.trans (K.beyond (dispatchWhile_beyond ..))) fun _ => h2
  have haccepted := hrestarted.trans (K.acceptJoin_passes c serial _)
  exact .ite (fun _ => haccepted.trans (K.beyond (recompute_beyond _))) fun _ => haccepted

theorem takeJoin_passes (c : CellId) (serial : Nat) (s : State) : Passes P s (takeJoin c serial s) := by
  unfold takeJoin
  split
  case h_1 | h_2 | h_3 => exact K.acceptJoin_passes ..
  case h_4 => exact .ite (fun _ => K.acceptAgain_passes ..) fun _ => K.restartJoin_passes ..
  case h_9 => exact K.beyond (emitDeck_beyond ..)
  all_goals exact .ite (fun _ => K.beyond (countBad_beyond ..)) fun _ => K.restartJoin_passes ..

theorem takeHeldJoins_passes (s : State) : Passes P s (takeHeldJoins s) :=
  .ite (fun _ => .refl s) fun _ => (K.beyond (setHeldJoins_beyond [] s)).trans
    (forEach_passes (fun (j : CellId × Nat) t => K.takeJoin_passes j.1 j.2 t) _)

theorem supervise_passes (c : CellId) (s : State) : Passes P s (supervise c s) :=
  .ite (fun _ => K.loseCell_passes c s) fun _ => K.beyond
    ((modCell_beyond
      (f := fun x => { x with missed := if (s.cell c).good then 0 else (s.cell c).missed + 1, good := false })
      (fun _ => by rfl) s).trans (armHeartbeat_beyond ..))

theorem cellDisable_passes (cell : Nat) (s : State) : Passes P s (cellDisable cell s).state := by
  unfold cellDisable
  split
  · exact .refl s
  · split
    · exact .refl s
    · exact (K.beyond (emitDeck_beyond ..)).trans (K.dropCell_passes ..)

theorem takeSilenced_passes (c : CellId) (s : State) : Passes P s (takeSilenced c s) := by
  unfold takeSilenced
  extract_lets t
  have ht : Passes P s t := (K.beyond (modCell_beyond (fun _ => by rfl) s)).trans (K.cellCountsComplete_passes c _)
  exact .ite (fun _ => ht.trans (K.beyond (resumeCell_beyond ..))) fun _ => ht

/-! ### Registrations and links (R22 to R41, R123 to R134) -/

theorem sendQueued_passes (s : State) : Passes P s (sendQueued s) := sendQueued_passes_of_build K.build s

theorem expireEntry_passes (o : Outstanding) (s : State) : Passes P s (expireEntry o s) :=
  .trans (.ite (fun _ => K.removeEntry ..) fun _ => (K.removeEntry ..).trans (K.fail ..)) (K.sendQueued_passes _)

theorem matchAnswer_passes (l : LinkId) (correlation : Nat) (accept : Bool) (cause : Nat) (s : State) :
    Passes P s (matchAnswer l correlation accept cause s) := by
  have hcount : Passes P s (countUnmatched s) := K.beyond ⟨rfl, fun _ => rfl, rfl, rfl, rfl⟩
  unfold matchAnswer
  split
  · exact hcount
  · exact .ite (fun _ => ((K.removeEntry ..).trans (K.answer ..)).trans (K.sendQueued_passes _)) fun _ => hcount

theorem moveLink_passes (l : LinkId) (state : LinkState) (s : State) : Passes P s (moveLink l state s) := by
  have henter := enterState_beyond l state s
  have hhanded : Beyond s
      (if (s.link l).state = .carrying then carryingChanged (enterState l state s) else enterState l state s) :=
    .ite (henter.trans (carryingChanged_beyond _)) henter
  exact .ite (fun _ => (K.beyond hhanded).trans (forEach_passes K.expireEntry_passes _)) fun _ => K.beyond hhanded

theorem moveAndSelect_passes (l : LinkId) (state : LinkState) (s : State) : Passes P s (moveAndSelect l state s) :=
  (K.moveLink_passes ..).trans (K.beyond (select_beyond _))

theorem readyCheck_passes (l : LinkId) (s : State) : Passes P s (readyCheck l s) :=
  .ite (fun _ => K.moveLink_passes ..) fun _ => .refl s

theorem takeStatus_passes (l : LinkId) (r : StatusRecord) (s : State) : Passes P s (takeStatus l r s) := by
  have hcarrier (t : State) : Passes P t (carrierStep l r.carrier t) := by
    unfold carrierStep
    split
    case h_6 => exact .refl t
    all_goals exact K.moveLink_passes ..
  have hquality (t : State) : Passes P t (qualityStep l t) := by
    unfold qualityStep
    extract_lets low u
    have hcounted : Passes P t u := K.beyond (setLkm_beyond _ t)
    refine .ite (fun _ => ?_) fun _ => hcounted
    split
    case h_4 => exact hcounted
    all_goals exact hcounted.trans (K.moveLink_passes ..)
  have hafter (t : State) : Passes P t (afterRecord l r.carrier t) :=
    .ite (fun _ => hcarrier t) fun _ => ((hcarrier t).trans (hquality _)).trans (K.readyCheck_passes ..)
  have hrecorded : Passes P s (afterRecord l r.carrier (modLink l (Link.record r) s)) :=
    (K.beyond (setLkm_beyond _ s)).trans (hafter _)
  exact .trans (.ite (fun _ => hrecorded.trans (K.beyond (setMail_beyond ..))) fun _ => hrecorded)
    (K.beyond (select_beyond _))

theorem probeStep_passes (l : LinkId) (s : State) : Passes P s (probeStep l s) := by
  have hmissed : Beyond s (modLink l Link.missed s) := setLkm_beyond _ s
  exact .ite (fun _ => (K.beyond hmissed).trans (K.moveLink_passes ..)) fun _ => K.beyond
    ((hmissed.trans (setLkm_beyond _ _)).trans (sendProbe_beyond ..))

theorem selectIfMoved_passes (before s : State) : Passes P s (selectIfMoved before s) :=
  K.beyond (.ite (select_beyond s) (.refl s))

theorem completeEngagement_passes (l : LinkId) (s : State) : Passes P s (completeEngagement l s) := by
  have hdrained (c : Option LinkId) (t : State) : Beyond t (drainPrevious c t) := by
    cases c with
    | none => exact .refl t
    | some m => exact enterState_beyond ..
  have hcarrying := (enterState_beyond l .carrying s).trans (hdrained s.carryingLink _)
  exact ((K.beyond ((hcarrying.trans (setLkm_beyond _ _)).trans (carryingChanged_beyond _))).trans (K.sendQueued_passes _)).trans
    (K.beyond (select_beyond _))

theorem zoneCheck_passes (kinds : KindSet) (s : State) : Passes P s (zoneCheck kinds s) := by
  have hdrain (items : List LinkId) (t : State) : Passes P t (forEach items (fun l => moveLink l .draining) t) :=
    forEach_passes (fun l => K.moveLink_passes l .draining) t
  exact ((hdrain _ s).trans (hdrain _ _)).trans (K.beyond (selectUnder_beyond ..))

theorem linkEnable_passes (link kind : Nat) (s : State) : Passes P s (linkEnable link kind s).state := by
  unfold linkEnable
  split
  · split
    · exact (K.beyond (setLkm_beyond _ s)).trans (K.moveAndSelect_passes ..)
    · exact .refl s
  · exact .refl s

theorem linkDisable_passes (link : Nat) (s : State) : Passes P s (linkDisable link s).state := by
  unfold linkDisable
  split
  · exact .refl s
  · split
    · exact .refl s
    · exact (K.beyond ((Beyond.ite (sendTerminal_beyond ..) (.refl s)).trans (setLkm_beyond _ _))).trans
        (K.moveAndSelect_passes ..)

theorem linkSet_passes (link ceiling bonus : Nat) (s : State) : Passes P s (linkSet link ceiling bonus s).state := by
  unfold linkSet
  split
  next => exact .refl s
  next l _ =>
    have hset : Beyond s (modLink l (Link.configured (clamp 1 16383 ceiling) (clamp 0 50 bonus)) s) := setLkm_beyond _ s
    exact K.beyond (.trans (.ite (hset.trans (setMail_beyond ..)) hset) (select_beyond _))

/-! ### Contexts and tickets (R101, R109, R110, R174, R175) -/

theorem attachAtSbt_passes (c : CellId) (sid : Sid) (s : State) : Passes P s (attachAtSbt c sid s) := by
  unfold attachAtSbt
  refine .ite (fun _ => K.beyond (sendDeck_beyond ..)) fun _ => ?_
  split
  case h_4 =>
    split
    next h => exact K.reattach c h
    next => exact K.newAttach ..
  all_goals exact K.beyond (sendDeck_beyond ..)

theorem detachAtSbt_passes (c : CellId) (sid : Sid) (k : Nat) (s : State) : Passes P s (detachAtSbt c sid k s) := by
  unfold detachAtSbt
  split
  next => exact .refl s
  next x hx => exact .ite (fun h => K.release .detach hx h.1) fun _ => .refl s

theorem subRelease_passes (k : Nat) (s : State) : Passes P s (subRelease k s).state := by
  unfold subRelease
  split
  next => exact .refl s
  next =>
    split
    next => exact .refl s
    next x hx =>
      split
      next => exact .refl s
      next hleaving =>
        have htold : Beyond s (tellReleased k x s) := .ite (sendDeck_beyond ..) (sendDeck_beyond ..)
        have hx' : (tellReleased k x s).context k = some x := by rw [State.context, htold.contexts]; exact hx
        exact (K.beyond htold).trans (K.release .host hx' hleaving)

theorem ticketRelease_passes (seq : Nat) (s : State) : Passes P s (ticketRelease seq s).state := by
  have hserve (n : Nat) (t : State) : Passes P t (serveWhile n t) := by
    induction n generalizing t with
    | zero => exact .refl t
    | succ n ih =>
      unfold serveWhile
      split
      next => exact .refl t
      next hlist => exact .ite (fun hgate => (K.serve hlist hgate).trans (ih _)) fun _ => .refl t
  unfold ticketRelease
  split
  · exact .refl s
  · exact (K.dropTickets _ s).trans (hserve ..)

theorem closeOverdue_passes (s : State) : Passes P s (closeOverdue s) := by
  refine forEach_passes (fun k t => ?_) s
  split
  · exact .refl t
  · exact .ite (fun _ => K.close ..) fun _ => .refl t

/-! ### Settings, requests and restarts (R46, R84, R90, R175, R177, R183, R193, R195) -/

theorem settingsSet_passes (setting value : Nat) (s : State) : Passes P s (settingsSet setting value s).state := by
  have hchanged (x : Setting) (t : State) : Passes P t (settingChanged x t) := by
    unfold settingChanged
    split
    · exact K.beyond (takeCapacity_beyond ..)
    · exact K.beyond (.ite (.refl t) (forEach_beyond wakeCell_beyond t))
    · exact K.beyond (dispatch_beyond t)
    · exact K.closeOverdue_passes t
    · exact K.beyond (.ite (setCond_beyond ..) (.refl t))
    · exact .refl t
  unfold settingsSet
  split
  next => exact .refl s
  next x _ =>
    have hput : Beyond s { s with settings := s.settings.put (s.settings.judge x value).1 x } := .of_parts rfl rfl rfl rfl
    exact .ite (fun _ => K.beyond hput) fun _ => (K.beyond hput).trans (hchanged x _)

theorem request_passes {act : State → Answer} (h : ∀ s, Passes P s (act s).state) (tag code : Nat) (body : List Byte) (s : State) :
    Passes P s (request tag code body act s) := by
  have harrive : Passes P s (arrive (tag % 256) code body s) := K.beyond (arrive_beyond ..)
  have hreply (t : State) (status : Status) (reply : List Byte) : Passes P t (appendReply (tag % 256) status reply t) :=
    K.beyond (appendReply_beyond ..)
  have htake (t : State) : Passes P t (takeRequest ⟨tag % 256, code, body, false⟩ act t) :=
    .ite (fun _ => hreply ..) fun _ => .ite (fun _ => (h t).trans (hreply ..)) fun _ => hreply ..
  unfold request
  dsimp only
  split
  next w _ =>
    refine .ite (fun hw => .ite (fun _ => .refl s) fun _ => ?_) fun _ => harrive
    exact (htake s).trans (K.beyond (answerUnowned_beyond _))
  next => exact .ite (fun _ => harrive) fun _ => harrive.trans (htake _)

/-- A request whose rule stays beyond the contexts. -/
theorem requestBeyond_passes {act : State → Answer} (h : ∀ s, Beyond s (act s).state) (tag code : Nat) (body : List Byte)
    (s : State) : Passes P s (request tag code body act s) := K.request_passes (fun t => K.beyond (h t)) tag code body s

theorem takeRestart_passes {effect : State → State} (h : ∀ s, Passes P s (effect s)) (b : Block) (s : State) :
    Passes P s (takeRestart b effect s) :=
  .ite (fun _ => ((K.beyond (setMail_beyond _ s)).trans (h _)).trans (K.beyond (answerUnowned_beyond _)))
    fun _ => .refl s

theorem epcRestart_passes (s : State) : Passes P s (takeHeldJoins (epcRestartEffect s)) :=
  (K.beyond ((setRing_beyond ..).trans (releaseGenerations_beyond _))).trans (K.takeHeldJoins_passes _)

theorem sbtRestart_passes (s : State) : Passes P s (takeHeldJoins (sbtRestartEffect s)) :=
  (forEach_passes K.restart s).trans (K.takeHeldJoins_passes _)

theorem hardwareReset_keeps (s : State) : P (hardwareReset s) := by
  unfold hardwareReset
  split
  · exact K.fresh rfl (fun c => by rw [reset_cell]; rfl) rfl rfl rfl rfl
  · exact K.fresh rfl (fun c => by rw [fromStore_cell]; rfl) rfl rfl rfl rfl

end ContextKeeps

end Sys2Proof.Proofs
end

section
/-! SUPPORT. Every command and every step, for a law of contexts, tickets and registrations. -/

namespace Sys2Proof.Proofs

open Sys2Proof.Machine

namespace ContextKeeps

variable {P : State → Prop} {s t : State} (K : ContextKeeps P)

include K

theorem done_passes {x : State} (h : Passes P s x) (ht : done x = .next t) : Passes P s t := by
  obtain rfl := Host.Outcome.next.inj ht
  exact h.trans (K.beyond (refreshLamp_beyond x))

/-! ### Frames from units (R59, R60) -/

theorem exec_heartbeat {unit phase power demand : Nat} (h : exec (.heartbeat unit phase power demand) s = .next t) :
    Passes P s t := by
  refine K.done_passes (K.beyond ?_) h
  split
  · exact .refl s
  · refine .ite ?_ (countBad_beyond ..)
    split
    · exact emitDeck_beyond ..
    · exact emitDeck_beyond ..
    · exact .refl s
    · exact takeHeartbeat_beyond ..

theorem exec_deckFrameInvalid {payload : List Byte} (h : exec (.deckFrameInvalid payload) s = .next t) : Passes P s t := by
  refine K.done_passes (K.beyond ?_) h
  split
  · exact .refl s
  · split
    · exact .refl s
    · exact .ite (.refl s) (countBad_beyond ..)

theorem exec_retuned {unit : Nat} {beacon : Beacon} (h : exec (.retuned unit beacon) s = .next t) : Passes P s t := by
  refine K.done_passes (K.beyond ?_) h
  split
  · exact .refl s
  · refine .ite ?_ (countBad_beyond ..)
    split
    case h_4 => exact takeRetuned_beyond ..
    case h_1 | h_2 | h_3 => exact countBad_beyond ..
    all_goals exact .refl s

theorem exec_silenced {unit : Nat} (h : exec (.silenced unit) s = .next t) : Passes P s t := by
  refine K.done_passes ?_ h
  split
  · exact .refl s
  · split
    case h_4 => exact K.takeSilenced_passes ..
    case h_1 | h_2 | h_3 => exact K.beyond (countBad_beyond ..)
    all_goals exact .refl s

theorem exec_join {unit serial : Nat} (h : exec (.join unit serial) s = .next t) : Passes P s t := by
  refine K.done_passes ?_ h
  split
  · exact .refl s
  · exact .ite (fun _ => K.beyond (setHeldJoins_beyond ..)) fun _ => K.takeJoin_passes ..

theorem exec_attach {unit : Nat} {sid : Sid} (h : exec (.attach unit sid) s = .next t) : Passes P s t := by
  refine K.done_passes ?_ h
  split
  · exact .refl s
  · exact .ite (fun _ => (K.beyond (takeEvent_beyond ..)).trans (K.attachAtSbt_passes ..)) fun _ => K.beyond (countBad_beyond ..)

theorem exec_detach {unit : Nat} {sid : Sid} {ctx : Nat} (h : exec (.detach unit sid ctx) s = .next t) : Passes P s t := by
  refine K.done_passes ?_ h
  split
  · exact .refl s
  · exact .ite (fun _ => K.detachAtSbt_passes ..) fun _ => K.beyond (countBad_beyond ..)

theorem exec_activity {unit : Nat} {kinds : List Nat} (h : exec (.activity unit kinds) s = .next t) : Passes P s t := by
  refine K.done_passes (K.beyond ?_) h
  split
  · exact .refl s
  · exact .ite (takeActivity_beyond ..) (countBad_beyond ..)

theorem exec_usage {unit epoch : Nat} {entries : List UsageEntry} (h : exec (.usage unit epoch entries) s = .next t) :
    Passes P s t := by
  refine K.done_passes ?_ h
  split
  · exact .refl s
  · exact .ite (fun _ => forEach_passes (K.entry (epoch % 256)) s) fun _ => K.beyond (countBad_beyond ..)

theorem exec_usageEnd {unit epoch : Nat} (h : exec (.usageEnd unit epoch) s = .next t) : Passes P s t := by
  refine K.done_passes ?_ h
  split
  · exact .refl s
  · exact .ite (fun _ => K.checkRing_passes ..) fun _ => K.beyond (countBad_beyond ..)

/-! ### Expiries of a cell's timers and orders to the cells (R67, R82, R83, R86, R89, R91, R92) -/

theorem exec_heartbeatTimerExpiry {cell : Nat} (h : exec (.heartbeatTimerExpiry cell) s = .next t) : Passes P s t := by
  refine K.done_passes ?_ h
  split
  · exact .refl s
  · exact atExpiry_passes K.beyond (K.supervise_passes _) s

theorem exec_retuneTimerExpiry {cell : Nat} (h : exec (.retuneTimerExpiry cell) s = .next t) : Passes P s t := by
  refine K.done_passes ?_ h
  split
  · exact .refl s
  · exact atExpiry_passes K.beyond (K.loseCell_passes _) s

theorem exec_silenceTimerExpiry {cell : Nat} (h : exec (.silenceTimerExpiry cell) s = .next t) : Passes P s t := by
  refine K.done_passes ?_ h
  split
  · exact .refl s
  · exact atExpiry_passes K.beyond (fun _ => (K.beyond (setCond_beyond ..)).trans (K.loseCell_passes ..)) s

theorem exec_idleTimerExpiry {cell : Nat} (h : exec (.idleTimerExpiry cell) s = .next t) : Passes P s t := by
  refine K.done_passes ?_ h
  split
  · exact .refl s
  · exact atExpiry_passes K.beyond (fun _ => K.beyond (.ite (dozeCell_beyond ..) (loadIdle_beyond ..))) s

theorem exec_deepTimerExpiry {cell : Nat} (h : exec (.deepTimerExpiry cell) s = .next t) : Passes P s t := by
  refine K.done_passes ?_ h
  split
  · exact .refl s
  · exact atExpiry_passes K.beyond
      (fun _ => K.beyond ((sendDeck_beyond ..).trans (modCell_beyond (fun _ => by rfl) _))) s

theorem exec_cellRetuneOrder (h : exec .cellRetuneOrder s = .next t) : Passes P s t := by
  refine K.done_passes (K.beyond ?_) h
  split
  · exact .refl s
  · exact .ite ((setMail_beyond ..).trans (retuneOrder_beyond ..)) (.refl s)

theorem exec_cellSilenceOrder (h : exec .cellSilenceOrder s = .next t) : Passes P s t := by
  refine K.done_passes (K.beyond ?_) h
  split
  · exact .refl s
  · exact .ite (.refl s) ((setMail_beyond ..).trans (silenceOrder_beyond _))

theorem exec_capacityHandover (h : exec .capacityHandover s = .next t) : Passes P s t := by
  refine K.done_passes (K.beyond ?_) h
  split
  · exact .refl s
  · exact (setMail_beyond ..).trans (takeCapacity_beyond ..)

theorem exec_regrantTimerExpiry (h : exec .regrantTimerExpiry s = .next t) : Passes P s t := by
  have harmed (u : State) : Beyond u (armRegrant u) := setCap_beyond _ u
  exact K.done_passes (atExpiry_passes K.beyond
    (fun u => K.beyond (.ite ((harmed u).trans (recompute_beyond _)) (harmed u))) s) h

/-! ### Links (R19 to R41) -/

theorem exec_status {link carrier quality latency capacity : Nat}
    (h : exec (.status link carrier quality latency capacity) s = .next t) : Passes P s t := by
  refine K.done_passes ?_ h
  split
  · exact .refl s
  · exact .ite (fun _ => .refl s) fun _ => K.takeStatus_passes ..

theorem exec_echo {link sequence : Nat} (h : exec (.echo link sequence) s = .next t) : Passes P s t := by
  refine K.done_passes ?_ h
  split
  · exact .refl s
  · exact .ite (fun _ => ((K.beyond (setLkm_beyond _ s)).trans (K.readyCheck_passes ..)).trans (K.selectIfMoved_passes ..))
      fun _ => .refl s

theorem exec_carried {link : Nat} (h : exec (.carried link) s = .next t) : Passes P s t := by
  refine K.done_passes ?_ h
  split
  · exact .refl s
  · exact .ite (fun _ => K.completeEngagement_passes ..) fun _ => .refl s

theorem exec_released {link : Nat} (h : exec (.released link) s = .next t) : Passes P s t := by
  refine K.done_passes ?_ h
  split
  · exact .refl s
  · exact .ite (fun _ => K.moveAndSelect_passes ..) fun _ => .refl s

theorem exec_holdOffExpiry {link : Nat} (h : exec (.holdOffExpiry link) s = .next t) : Passes P s t := by
  refine K.done_passes ?_ h
  split
  · exact .refl s
  · exact atExpiry_passes K.beyond (K.moveAndSelect_passes _ .down) s

theorem exec_carryTimeout {link : Nat} (h : exec (.carryTimeout link) s = .next t) : Passes P s t := by
  refine K.done_passes ?_ h
  split
  · exact .refl s
  · exact atExpiry_passes K.beyond (K.moveAndSelect_passes _ .fault) s

theorem exec_drainTimerExpiry {link : Nat} (h : exec (.drainTimerExpiry link) s = .next t) : Passes P s t := by
  refine K.done_passes ?_ h
  split
  · exact .refl s
  · exact atExpiry_passes K.beyond (fun u => K.moveAndSelect_passes _ _ u) s

theorem exec_probeTimerExpiry (h : exec .probeTimerExpiry s = .next t) : Passes P s t :=
  K.done_passes (atExpiry_passes K.beyond
    (fun u => ((K.beyond (setLkm_beyond _ u)).trans (forEach_passes K.probeStep_passes _)).trans (K.selectIfMoved_passes u _)) s) h

theorem exec_dwellTimerExpiry (h : exec .dwellTimerExpiry s = .next t) : Passes P s t :=
  K.done_passes (atExpiry_passes K.beyond (fun u => K.beyond ((setLkm_beyond _ u).trans (select_beyond _))) s) h

theorem exec_linkZoneCheck (h : exec .linkZoneCheck s = .next t) : Passes P s t := by
  refine K.done_passes ?_ h
  split
  · exact .refl s
  · exact (K.beyond (setMail_beyond ..)).trans (K.zoneCheck_passes ..)

/-! ### Registrations, waters without service and epochs (R113, R125, R129, R133, R140, R145) -/

theorem exec_regAns {link correlation result cause : Nat} (h : exec (.regAns link correlation result cause) s = .next t) :
    Passes P s t := by
  refine K.done_passes ?_ h
  split
  · exact .refl s
  · exact .ite (fun _ => .refl s) fun _ => K.matchAnswer_passes ..

theorem exec_regTimeoutDeadline {correlation : Nat} (h : exec (.regTimeoutDeadline correlation) s = .next t) :
    Passes P s t := by
  refine K.done_passes ?_ h
  split
  · exact .refl s
  · exact (K.beyond (reachDeadline_beyond ..)).trans (K.expireEntry_passes ..)

theorem exec_reevaluation (h : exec .reevaluation s = .next t) : Passes P s t := by
  refine K.done_passes ?_ h
  split
  · exact .refl s
  · exact (K.beyond (setMail_beyond ..)).trans (forEach_passes K.reevaluate _)

theorem exec_serviceOffRelease (h : exec .serviceOffRelease s = .next t) : Passes P s t := by
  refine K.done_passes ?_ h
  split
  · exact .refl s
  · exact (K.beyond (setMail_beyond ..)).trans (forEach_passes K.serviceOff _)

theorem exec_epochOpen {reason : OpenReason} (h : exec (.epochOpen reason) s = .next t) : Passes P s t :=
  K.done_passes (.ite (fun _ => (K.beyond (setMail_beyond ..)).trans (K.openEpoch_passes reason _)) fun _ => .refl s) h

theorem exec_cutTimerExpiry {epoch : Nat} (h : exec (.cutTimerExpiry epoch) s = .next t) : Passes P s t := by
  refine K.done_passes ?_ h
  split
  · exact .refl s
  · exact .ite (fun _ => K.cutTimerExpiry_passes ..) fun _ => .refl s

/-! ### The control port (R181, R182, R185, R192) -/

theorem exec_gapTimeout (h : exec .gapTimeout s = .next t) : Passes P s t := by
  refine K.done_passes (K.beyond (.trans ?_ (portError_beyond ..))) h
  split
  · exact .refl s
  · exact reachDeadline_beyond ..

theorem exec_controlFrameSent (h : exec .controlFrameSent s = .next t) : Passes P s t := by
  refine K.done_passes (K.beyond ?_) h
  split
  · exact .refl s
  · exact (emitBytes_beyond ..).trans (headLeaves_beyond _)

theorem exec_notice (h : exec .notice s = .next t) : Passes P s t :=
  K.done_passes (K.beyond (.ite (.ite (setCtp_beyond _ s) (setCtp_beyond _ s)) (.refl s))) h

theorem exec_storeWriteCompletion {success : Bool} (h : exec (.storeWriteCompletion success) s = .next t) : Passes P s t := by
  refine K.done_passes (K.beyond ?_) h
  split
  · exact .refl s
  · exact .of_parts rfl rfl rfl rfl

/-! ### Every command -/

/-- Every command keeps what the operations on contexts keep. -/
theorem exec_passes {i : Instr} (h : exec i s = .next t) : Passes P s t := by
  cases i with
  | hardwareReset => exact K.done_passes ⟨fun _ => K.hardwareReset_keeps s⟩ h
  | controlFrame bytes => exact K.done_passes (K.beyond (clockBytes_beyond bytes s)) h
  | gapTimeout => exact K.exec_gapTimeout h
  | controlFrameSent => exact K.exec_controlFrameSent h
  | notice => exact K.exec_notice h
  | fix tag lat lon quality fixTime => exact K.done_passes (K.requestBeyond_passes (fixRule_beyond lat lon quality fixTime) ..) h
  | zoneForce tag zone => exact K.done_passes (K.requestBeyond_passes (zoneForce_beyond zone) ..) h
  | zoneRelease tag => exact K.done_passes (K.requestBeyond_passes zoneRelease_beyond ..) h
  | zoneQuery tag zone => exact K.done_passes (K.requestBeyond_passes (fun _ => query_beyond (zoneQuery_state ..)) ..) h
  | staleTimerExpiry =>
    exact K.done_passes (atExpiry_passes K.beyond (fun u => K.beyond ((setPzu_beyond _ u).trans (setCond_beyond ..))) s) h
  | linkEnable tag link kind => exact K.done_passes (K.request_passes (K.linkEnable_passes link kind) ..) h
  | linkDisable tag link => exact K.done_passes (K.request_passes (K.linkDisable_passes link) ..) h
  | linkSet tag link ceiling bonus => exact K.done_passes (K.request_passes (K.linkSet_passes link ceiling bonus) ..) h
  | linkQuery tag link => exact K.done_passes (K.requestBeyond_passes (fun _ => query_beyond (linkQuery_state ..)) ..) h
  | status link carrier quality latency capacity => exact K.exec_status h
  | echo link sequence => exact K.exec_echo h
  | carried link => exact K.exec_carried h
  | released link => exact K.exec_released h
  | terminalFrameInvalid payload => exact K.done_passes (.refl s) h
  | probeTimerExpiry => exact K.exec_probeTimerExpiry h
  | carryTimeout link => exact K.exec_carryTimeout h
  | drainTimerExpiry link => exact K.exec_drainTimerExpiry h
  | holdOffExpiry link => exact K.exec_holdOffExpiry h
  | dwellTimerExpiry => exact K.exec_dwellTimerExpiry h
  | linkZoneCheck => exact K.exec_linkZoneCheck h
  | capacityHandover => exact K.exec_capacityHandover h
  | regrantTimerExpiry => exact K.exec_regrantTimerExpiry h
  | join unit serial => exact K.exec_join h
  | heartbeat unit phase power demand => exact K.exec_heartbeat h
  | heartbeatTimerExpiry cell => exact K.exec_heartbeatTimerExpiry h
  | deckFrameInvalid payload => exact K.exec_deckFrameInvalid h
  | cellDisable tag cell => exact K.done_passes (K.request_passes (K.cellDisable_passes cell) ..) h
  | cellEnable tag cell => exact K.done_passes (K.requestBeyond_passes (cellEnable_beyond cell) ..) h
  | cellQuery tag cell clear => exact K.done_passes (K.requestBeyond_passes (cellQuery_beyond cell clear) ..) h
  | activity unit kinds => exact K.exec_activity h
  | idleTimerExpiry cell => exact K.exec_idleTimerExpiry h
  | deepTimerExpiry cell => exact K.exec_deepTimerExpiry h
  | cellRetuneOrder => exact K.exec_cellRetuneOrder h
  | retuned unit beacon => exact K.exec_retuned h
  | retuneTimerExpiry cell => exact K.exec_retuneTimerExpiry h
  | cellSilenceOrder => exact K.exec_cellSilenceOrder h
  | silenced unit => exact K.exec_silenced h
  | silenceTimerExpiry cell => exact K.exec_silenceTimerExpiry h
  | lampSet tag pattern => exact K.done_passes (K.requestBeyond_passes (lampSet_beyond pattern) ..) h
  | attach unit sid => exact K.exec_attach h
  | detach unit sid ctx => exact K.exec_detach h
  | subRelease tag ctx => exact K.done_passes (K.request_passes (K.subRelease_passes ctx) ..) h
  | graceDeadline ctx => exact K.done_passes (atExpiry_passes K.beyond (K.grace ctx) s) h
  | serviceOffRelease => exact K.exec_serviceOffRelease h
  | subQuery tag ctx => exact K.done_passes (K.requestBeyond_passes (fun _ => query_beyond (subQuery_state ..)) ..) h
  | subFind tag sid => exact K.done_passes (K.requestBeyond_passes (fun _ => query_beyond (subFind_state ..)) ..) h
  | regAns link correlation result cause => exact K.exec_regAns h
  | regTimeoutDeadline correlation => exact K.exec_regTimeoutDeadline h
  | reevaluation => exact K.exec_reevaluation h
  | subReregister tag ctx => exact K.done_passes (K.request_passes (K.reregister ctx) ..) h
  | epochOpen reason => exact K.exec_epochOpen h
  | usageEnd unit epoch => exact K.exec_usageEnd h
  | cutTimerExpiry epoch => exact K.exec_cutTimerExpiry h
  | usage unit epoch entries => exact K.exec_usage h
  | quotaGrant tag ctx mode amount => exact K.done_passes (K.request_passes (K.grant ctx mode amount) ..) h
  | quotaAttentionRead tag => exact K.done_passes (K.requestBeyond_passes (fun _ => .of_parts rfl rfl rfl rfl) ..) h
  | ticketRead tag max => exact K.done_passes (K.requestBeyond_passes (fun _ => query_beyond (ticketRead_state ..)) ..) h
  | ticketRelease tag sequence => exact K.done_passes (K.request_passes (K.ticketRelease_passes sequence) ..) h
  | intervalDeadline ctx => exact K.done_passes (atExpiry_passes K.beyond (K.close ctx .interval) s) h
  | settingsSet tag setting value => exact K.done_passes (K.request_passes (K.settingsSet_passes setting value) ..) h
  | settingsGet tag setting => exact K.done_passes (K.requestBeyond_passes (fun _ => query_beyond (settingsGet_state ..)) ..) h
  | timeSet tag seconds => exact K.done_passes (K.requestBeyond_passes (fun u => setCtp_beyond _ u) ..) h
  | condClear tag conds => exact K.done_passes (K.requestBeyond_passes (fun u => setCtp_beyond _ u) ..) h
  | condMask tag conds => exact K.done_passes (K.requestBeyond_passes (fun u => setCtp_beyond _ u) ..) h
  | statusRead tag block => exact K.done_passes (K.requestBeyond_passes (fun _ => query_beyond (statusRead_state ..)) ..) h
  | identify tag => exact K.done_passes (K.requestBeyond_passes (fun u => .refl u) ..) h
  | unlock tag code => exact K.done_passes (K.requestBeyond_passes (unlock_beyond code) ..) h
  | lock tag => exact K.done_passes (K.requestBeyond_passes lockPort_beyond ..) h
  | lockoutTimerExpiry => exact K.done_passes (atExpiry_passes K.beyond (fun u => K.beyond (setCtp_beyond _ u)) s) h
  | codeSet tag code => exact K.done_passes (K.requestBeyond_passes (fun u => setCtp_beyond _ u) ..) h
  | loadBegin tag kind total checksum => exact K.done_passes (K.requestBeyond_passes (loadBegin_beyond kind total checksum) ..) h
  | loadData tag offset bytes => exact K.done_passes (K.requestBeyond_passes (loadData_beyond offset bytes) ..) h
  | loadCommit tag => exact K.done_passes (K.requestBeyond_passes loadCommit_beyond ..) h
  | storeSave tag => exact K.done_passes (K.requestBeyond_passes storeSave_beyond ..) h
  | storeWriteCompletion success => exact K.exec_storeWriteCompletion h
  | restart tag => exact K.done_passes (K.requestBeyond_passes (fun _ => .of_parts rfl rfl rfl rfl) ..) h
  | epcRestart => exact K.done_passes (K.takeRestart_passes K.epcRestart_passes ..) h
  | capRestart => exact K.done_passes (K.takeRestart_passes (fun u => K.beyond (capRestartEffect_beyond u)) ..) h
  | ducRestart => exact K.done_passes (K.takeRestart_passes (fun u => K.beyond (ducRestartEffect_beyond u)) ..) h
  | sbtRestart => exact K.done_passes (K.takeRestart_passes K.sbtRestart_passes ..) h
  | rgeRestart => exact K.done_passes (K.takeRestart_passes K.rgeRestart ..) h
  | rteRestart => exact K.done_passes (K.takeRestart_passes Passes.refl ..) h
  | tkqRestart => exact K.done_passes (K.takeRestart_passes Passes.refl ..) h
  | lengthDiscard => exact K.done_passes (K.beyond (portError_beyond .length s)) h

/-- Every step keeps what the operations on contexts keep. -/
theorem step_passes (h : step s = .next t) : Passes P s t := by
  unfold step at h
  split at h
  next => exact Host.Outcome.next.inj h ▸ K.beyond (.of_parts rfl rfl rfl rfl)
  next rest _ =>
    have htaken : Beyond s { s with pending := rest } := .of_parts rfl rfl rfl rfl
    exact (K.beyond htaken).trans (K.exec_passes h)

end ContextKeeps

end Sys2Proof.Proofs
end

section
/-! SUPPORT. AttachedLaw under the operations on one context (R97): the counts of a context that stays at its cell, of one freed, of one
moved and of a new one. -/

namespace Sys2Proof.Proofs

open Sys2Proof.Machine

/-! ### The counts of one context and of the others -/

/-- How many contexts of a list a cell serves. -/
def servedBy (c : CellId) (l : List (Nat × Context)) : Nat := (l.filter fun e => e.2.cell == c).length

theorem servedBy_cons (c : CellId) (e : Nat × Context) (l : List (Nat × Context)) :
    servedBy c (e :: l) = servedBy c l + if c = e.2.cell then 1 else 0 := by
  by_cases h : c = e.2.cell
  · simp [servedBy, h]
  · simp [servedBy, h, Ne.symm h]

section

variable {k : Nat} {x y : Context} {s t u : State}

/-- The contexts a cell serves are one of them, if the cell serves it, and those of the others. -/
theorem servedBy_context (horder : ContextsInOrder s) (h : s.context k = some x) (c : CellId) :
    servedBy c s.sbt.contexts = servedBy c (Assoc.erase s.sbt.contexts k) + if c = x.cell then 1 else 0 := by
  have hperm := ((perm_of_get horder h).filter fun e => e.2.cell == c).length_eq
  rw [← servedBy_cons c (k, x)]
  exact hperm

/-- Neither the contexts nor the cells change. -/
theorem counts_of_parts (sbt : t.sbt = s.sbt) (duc : t.duc = s.duc) : Passes AttachedLaw s t := by
  refine ⟨fun ⟨horder, hcount⟩ => ⟨by rwa [ContextsInOrder, sbt], fun c => ?_⟩⟩
  rw [sbt, State.cell, duc]
  exact hcount c

theorem beyond_counts (h : Beyond s t) : Passes AttachedLaw s t := by
  refine ⟨fun ⟨horder, hcount⟩ => ⟨by rwa [ContextsInOrder, h.contexts], fun c => ?_⟩⟩
  rw [h.attached, h.contexts]
  exact hcount c

/-- A context that is handled stays at its cell. -/
theorem Handled.counts {made : List (Volume × CloseReason)} (h : Handled k x y made s t) : Passes AttachedLaw s t := by
  refine ⟨fun ⟨horder, hcount⟩ => ⟨h.order horder, fun c => ?_⟩⟩
  have hcell : t.cell c = s.cell c := h.part (fun u => u.cell c) fun _ => rfl
  have hserved : servedBy c t.sbt.contexts = servedBy c s.sbt.contexts := by
    rw [servedBy_context (h.order horder) h.after, servedBy_context horder h.before, h.others, h.cell]
  rw [hcell, hcount c]
  exact hserved.symm

/-- A context freed is off its cell's count. -/
theorem counts_of_erased (h : s.context k = some x) (contexts : t.sbt.contexts = Assoc.erase s.sbt.contexts k)
    (attached : ∀ d, (t.cell d).attached = (s.cell d).attached - if d = x.cell then 1 else 0) : Passes AttachedLaw s t := by
  refine ⟨fun ⟨horder, hcount⟩ => ⟨?_, fun c => ?_⟩⟩
  · rw [ContextsInOrder, contexts]
    exact Assoc.erase_pairwise _ _ horder
  · have hserved := servedBy_context horder h c
    have hc : (s.cell c).attached = servedBy c s.sbt.contexts := hcount c
    rw [attached, contexts, hc, hserved]
    exact Nat.add_sub_cancel ..

/-! ### Changes of one record -/

theorem setContext_counts (h : s.context k = some x) (hsid : y.sid = x.sid := by rfl) (hcell : y.cell = x.cell := by rfl) :
    Passes AttachedLaw s (setContext k y s) := (setContext_billed h hsid hcell).counts

theorem modContext_counts {f : Context → Context} (k : Nat) (s : State)
    (hf : ∀ x, (f x).sid = x.sid ∧ (f x).cell = x.cell := by exact fun _ => ⟨rfl, rfl⟩) :
    Passes AttachedLaw s (modContext k f s) := by
  rcases modContext_cases k f s with ⟨-, h⟩ | ⟨x, hx, h⟩ <;> rw [h]
  · exact .refl s
  · exact setContext_counts hx (hf x).1 (hf x).2

theorem restrict_counts (k : Nat) (f : Restrictions → Restrictions) (s : State) : Passes AttachedLaw s (restrict k f s) := by
  cases h : s.context k with
  | none => rw [restrict, h]; exact .refl s
  | some x => exact (restrict_billed h f).counts

theorem setRegistration_counts (k : Nat) (r : Registration) (s : State) : Passes AttachedLaw s (setRegistration k r s) :=
  modContext_counts k s

theorem cancelRegistration_counts (k : Nat) (s : State) : Passes AttachedLaw s (cancelRegistration k s) := by
  cases h : s.context k with
  | none => rw [cancelRegistration, h]; exact .refl s
  | some x =>
    obtain ⟨r, hbilled⟩ := cancelRegistration_billed h
    exact hbilled.counts

/-! ### Freeing, moving and allocating (R97, R102, R103, R108) -/

theorem freeContext_counts (k : Nat) (s : State) : Passes AttachedLaw s (freeContext k s) := by
  cases h : s.context k with
  | none => rw [freeContext, h]; exact .refl s
  | some x => exact counts_of_erased h (freeContext_contexts h) (freeContext_attached h)

theorem raiseAttached_attached (c d : CellId) (s : State) :
    ((raiseAttached c s).cell d).attached = (s.cell d).attached + if d = c then 1 else 0 := by
  rw [raiseAttached, modCell, setCell_cell]
  split
  next h => rw [h]
  next => rfl

theorem lowerAttached_attached (c d : CellId) (s : State) :
    ((lowerAttached c s).cell d).attached = (s.cell d).attached - if d = c then 1 else 0 := by
  rw [lowerAttached, modCell, setCell_cell]
  split
  next h => rw [h]
  next => rfl

theorem moveContext_counts (h : s.context k = some x) (c : CellId) : Passes AttachedLaw s (moveContext k x c s) := by
  unfold moveContext
  by_cases hc : c = x.cell
  · rw [if_pos hc]
    exact setContext_counts h rfl hc
  · rw [if_neg hc]
    refine ⟨fun ⟨horder, hcount⟩ => ⟨Assoc.put_pairwise _ _ _ horder, fun d => ?_⟩⟩
    have hd : (s.cell d).attached = servedBy d s.sbt.contexts := hcount d
    have hserved : servedBy d (Assoc.put s.sbt.contexts k { x with cell := c, orphan := none })
        = servedBy d (Assoc.erase s.sbt.contexts k) + if d = c then 1 else 0 := by
      have hafter := servedBy_context (s := setContext k { x with cell := c, orphan := none } s)
        (Assoc.put_pairwise _ _ _ horder) (setContext_context_self ..) d
      rwa [setContext_sbt, erase_put] at hafter
    rw [raiseAttached_attached, lowerAttached_attached, setContext_cell, hd, servedBy_context horder h]
    exact (congrArg (· + _) (Nat.add_sub_cancel ..)).trans hserved.symm

/-- Below the first gap of a rising list stand only indices it holds, and the gap is free. -/
theorem get_lowestFree {α : Type} {l : List (Nat × α)} (h : l.Pairwise (fun a b => a.1 < b.1)) {n : Nat}
    (hn : ∀ e ∈ l, n ≤ e.1) : Assoc.get l (Assoc.lowestFree l n) = none := by
  have hget {l : List (Nat × α)} {m : Nat} (hm : ∀ e ∈ l, m < e.1) : Assoc.get l m = none := by
    induction l with
    | nil => rfl
    | cons e rest ih =>
      have he : e.1 ≠ m := (hm e List.mem_cons_self).ne'
      simpa [Assoc.get, he] using ih fun f hf => hm f (List.mem_cons_of_mem _ hf)
  induction l generalizing n with
  | nil => rfl
  | cons e rest ih =>
    obtain ⟨j, v⟩ := e
    obtain ⟨hlt, hrest⟩ := List.pairwise_cons.mp h
    have hj : n ≤ j := hn (j, v) List.mem_cons_self
    unfold Assoc.lowestFree
    by_cases hjn : j = n
    · subst hjn
      have hfree := ih hrest (n := j + 1) hlt
      have hle (l : List (Nat × α)) (m : Nat) : m ≤ Assoc.lowestFree l m := by
        induction l generalizing m with
        | nil => exact Nat.le_refl m
        | cons f l ihl =>
          unfold Assoc.lowestFree
          split
          · exact Nat.le_of_succ_le (ihl _)
          · exact Nat.le_refl m
      have hne : j ≠ Assoc.lowestFree rest (j + 1) := Nat.ne_of_lt (hle rest (j + 1))
      rw [if_pos rfl, Assoc.get, if_neg hne]
      exact hfree
    · rw [if_neg hjn]
      refine hget fun f hf => ?_
      rcases List.mem_cons.mp hf with rfl | hf
      · exact lt_of_le_of_ne hj (Ne.symm hjn)
      · exact lt_of_le_of_lt hj (hlt f hf)

theorem lowestFree_context (horder : ContextsInOrder s) : s.context s.lowestFree = none :=
  get_lowestFree horder fun _ _ => Nat.zero_le _

/-- A new context counts at its cell. -/
theorem allocate_counts (y : Context) (s : State) :
    Passes AttachedLaw s (raiseAttached y.cell (setContext s.lowestFree y s)) := by
  refine ⟨fun ⟨horder, hcount⟩ => ⟨Assoc.put_pairwise _ _ _ horder, fun d => ?_⟩⟩
  have hafter := servedBy_context (s := setContext s.lowestFree y s) (Assoc.put_pairwise _ _ _ horder)
    (setContext_context_self ..) d
  rw [setContext_sbt, erase_put, erase_of_get_none (lowestFree_context horder)] at hafter
  have hd : (s.cell d).attached = servedBy d s.sbt.contexts := hcount d
  rw [raiseAttached_attached, setContext_cell, hd]
  exact hafter.symm

/-! ### Rating and closing (R155 to R162, R171) -/

theorem debit_counts (k d : Nat) (s : State) : Passes AttachedLaw s (debit k d s) := by
  cases h : s.context k with
  | none => rw [debit, h]; exact .refl s
  | some x =>
    obtain ⟨q, b, hbilled⟩ := debit_billed h d
    exact hbilled.counts

theorem closeAccumulator_counts (k : Nat) (reason : CloseReason) (s : State) :
    Passes AttachedLaw s (closeAccumulator k reason s) := by
  cases h : s.context k with
  | none => rw [closeAccumulator, h]; exact .refl s
  | some x =>
    obtain ⟨q, b, hbilled⟩ := closeAccumulator_billed h reason
    exact hbilled.counts

theorem rateInto_counts (k up down epoch : Nat) (late : Bool) (s : State) :
    Passes AttachedLaw s (rateInto k up down epoch late s) := by
  unfold rateInto
  split
  next => exact .refl s
  next x hx =>
    split
    next => exact .refl s
    next => exact (setContext_counts hx).trans (debit_counts ..)

theorem holdUsage_counts (k up down epoch : Nat) (s : State) : Passes AttachedLaw s (holdUsage k up down epoch s) := by
  have hlisted (t : State) (l : List Nat) (n : Nat) :
      Passes AttachedLaw t { t with tkq := { t.tkq with holdList := l, refusals := n } } := counts_of_parts rfl rfl
  unfold holdUsage
  exact (((modContext_counts k s).trans (hlisted ..)).trans (restrict_counts ..)).trans (beyond_counts (setCond_beyond ..))

theorem lateTicket_counts (h : s.context k = some x) (up down : Nat) (key : Key) (epoch : Nat) :
    Passes AttachedLaw s (lateTicket k up down key epoch s) := by
  obtain ⟨q, b, hbilled⟩ := lateTicket_billed (up := up) (down := down) h key epoch
  exact hbilled.counts

theorem openOrHold_counts (k up down tag : Nat) (key : Key) (epoch : Nat) (late room : Bool) (s : State) :
    Passes AttachedLaw s (openOrHold k up down tag key epoch late room s) :=
  .ite (fun _ => (modContext_counts k s).trans (rateInto_counts ..)) fun _ => holdUsage_counts ..

theorem rateEntry_counts (k up down tag : Nat) (room : Bool) (s : State) :
    Passes AttachedLaw s (rateEntry k up down tag room s) := by
  unfold rateEntry
  split
  next => exact .refl s
  next x hx =>
    have hlate := countLate_billed hx (s.epochFor tag).2
    dsimp only
    refine hlate.counts.trans ?_
    split
    · exact openOrHold_counts ..
    · exact .ite (fun _ => rateInto_counts ..) fun _ =>
        .ite (fun _ => .ite (fun _ => lateTicket_counts hlate.after ..) fun _ => holdUsage_counts ..)
          fun _ => (closeAccumulator_counts ..).trans (openOrHold_counts ..)

theorem rateHeld_counts (k : Nat) (room : Bool) (s : State) : Passes AttachedLaw s (rateHeld k room s) := by
  unfold rateHeld
  split
  · exact .refl s
  · exact (rateEntry_counts ..).trans (modContext_counts k _)

theorem takeEntry_counts (tag : Nat) (e : UsageEntry) (s : State) : Passes AttachedLaw s (takeEntry tag e s) := by
  have hdiscarded : Passes AttachedLaw s (discardEntry s) := counts_of_parts rfl rfl
  unfold takeEntry
  split
  next => exact hdiscarded
  next x hx =>
    refine .ite (fun _ => hdiscarded) fun _ => ?_
    split
    · exact setContext_counts hx
    · exact rateEntry_counts ..

theorem sweepContext_counts (k : Nat) (s : State) : Passes AttachedLaw s (sweepContext k s) := by
  unfold sweepContext
  split
  next => exact .refl s
  next x hx =>
    split
    next => exact .refl s
    next =>
      exact .ite (fun _ => .refl s) fun _ => .ite (fun _ => setContext_counts hx) fun _ => closeAccumulator_counts ..

theorem quotaGrant_counts (k mode amount : Nat) (s : State) : Passes AttachedLaw s (quotaGrant k mode amount s).state := by
  unfold quotaGrant
  split
  next => exact .refl s
  next =>
    split
    next => exact .refl s
    next =>
      split
      next => exact .refl s
      next x hx =>
        split
        next => exact .refl s
        next =>
          unfold grantQuota
          dsimp only
          exact (setContext_counts hx).trans (restrict_counts ..)

/-! ### Leaving (R107, R111 to R114, R118, R174) -/

theorem releaseContext_counts (k : Nat) (reason : LeaveReason) (s : State) :
    Passes AttachedLaw s (releaseContext k reason s) := by
  have hclosed := (cancelRegistration_counts k s).trans (closeAccumulator_counts k reason.close _)
  exact .ite (fun _ => hclosed.trans (modContext_counts k _)) fun _ => hclosed.trans (freeContext_counts ..)

theorem completeCounts_counts (k : Nat) (s : State) : Passes AttachedLaw s (completeCounts k s) :=
  .ite (fun _ => modContext_counts k s) fun _ => (closeAccumulator_counts ..).trans (freeContext_counts ..)

theorem orphanContext_counts (k : Nat) (s : State) : Passes AttachedLaw s (orphanContext k s) := by
  unfold orphanContext
  split
  next => exact .refl s
  next x hx =>
    refine .ite (fun _ => .ite (fun _ => completeCounts_counts ..) fun _ => .refl s) fun _ => ?_
    split
    · exact .refl s
    · exact setContext_counts hx

theorem graceOver_counts (k : Nat) (s : State) : Passes AttachedLaw s (graceOver k s) := by
  unfold graceOver
  split
  next => exact .refl s
  next x hx =>
    have htold (t : State) : Beyond t (tellReleased k x t) := .ite (sendDeck_beyond ..) (sendDeck_beyond ..)
    exact ((setContext_counts hx).trans (beyond_counts (htold _))).trans (releaseContext_counts ..)

theorem serviceOffContext_counts (k : Nat) (s : State) : Passes AttachedLaw s (serviceOffContext k s) := by
  unfold serviceOffContext
  split
  next => exact .refl s
  next x hx =>
    split
    · exact .refl s
    · exact ((beyond_counts (sendDeck_beyond ..)).trans (cancelRegistration_counts ..)).trans (freeContext_counts ..)
    · have hleft := (cancelRegistration_counts k s).trans (modContext_counts
        (f := fun y => { y with state := .leaving, orphan := none, leaving := some ⟨.serviceOff, false⟩ }) k _)
      exact .ite (fun _ => hleft.trans (completeCounts_counts ..)) fun _ => hleft

theorem restartContext_counts (k : Nat) (s : State) : Passes AttachedLaw s (restartContext k s) := by
  cases h : s.context k with
  | none => rw [restartContext_free h]; exact .refl s
  | some x =>
    obtain ⟨off, -, hrestarted⟩ := restartContext_restarted h
    exact counts_of_erased h hrestarted.contexts hrestarted.attached

theorem serveContext_counts (k : Nat) (s : State) : Passes AttachedLaw s (serveContext k s) := by
  have hfinished (t : State) : Passes AttachedLaw t (finishLeaving k t) := by
    unfold finishLeaving
    split
    · exact .refl t
    · exact .ite (fun _ => (closeAccumulator_counts ..).trans (freeContext_counts ..)) fun _ => .refl t
  have hleft : Passes AttachedLaw s (leaveHoldList k s) := counts_of_parts rfl rfl
  exact ((hleft.trans (rateHeld_counts ..)).trans (restrict_counts ..)).trans (hfinished _)

/-! ### Registrations (R104 to R106, R124 to R134, R137) -/

theorem admitContext_counts (k : Nat) (s : State) : Passes AttachedLaw s (admitContext k s) := by
  unfold admitContext
  split
  next => exact .refl s
  next x hx =>
    have hsent (t : State) : Beyond t (sendAdmit k x t) :=
      .ite (sendDeck_beyond ..) ((sendDeck_beyond ..).trans (sendDeck_beyond ..))
    have hadmitted := (setContext_counts (y := { x with state := .active, jurisdiction := some s.zone.jurisdiction })
      hx).trans (beyond_counts (hsent _))
    exact .ite (fun _ => hadmitted.trans (beyond_counts (joinAttention_beyond ..))) fun _ => hadmitted

theorem admitPartner_counts (k partner : Nat) (s : State) : Passes AttachedLaw s (admitPartner k partner s) :=
  ((setRegistration_counts ..).trans (modContext_counts k _)).trans (admitContext_counts ..)

theorem turnAway_counts (k : Nat) (cause : RefuseCause) (s : State) : Passes AttachedLaw s (turnAway k cause s) := by
  have hrefused (t : State) : Passes AttachedLaw t (refuseContext k cause t) := by
    unfold refuseContext
    split
    · exact .refl t
    · exact (beyond_counts (sendDeck_beyond ..)).trans (freeContext_counts ..)
  exact (setRegistration_counts ..).trans (hrefused _)

theorem settlePartner_counts (k partner jurisdiction : Nat) (s : State) :
    Passes AttachedLaw s (settlePartner k partner jurisdiction s) := by
  unfold settlePartner
  exact ((setRegistration_counts ..).trans (modContext_counts k _)).trans (restrict_counts ..)

theorem losePartner_counts (k : Nat) (s : State) : Passes AttachedLaw s (losePartner k s) := by
  unfold losePartner
  exact ((setRegistration_counts ..).trans (modContext_counts k _)).trans (restrict_counts ..)

theorem buildRequest_counts (k : Nat) (l : LinkId) (s : State) : Passes AttachedLaw s (buildRequest k l s) := by
  unfold buildRequest
  split
  next => exact .refl s
  next x hx =>
    split
    next =>
      dsimp only
      split
      · have hsent (t : State) (sbt : t.sbt = s.sbt) (duc : t.duc = s.duc) {y : Context} (hsid : y.sid = x.sid)
            (hcell : y.cell = x.cell) : Passes AttachedLaw s (setContext k y t) :=
          (counts_of_parts sbt duc).trans (setContext_counts (by rw [State.context, sbt]; exact hx) hsid hcell)
        unfold sendRegReq
        dsimp only
        exact hsent _ (by rfl) (by rfl) (by rfl) (by rfl)
      · exact admitPartner_counts ..
      · exact settlePartner_counts ..
      · exact turnAway_counts ..
      · exact ((setRegistration_counts ..).trans (modContext_counts k _)).trans (restrict_counts ..)
    next => exact .refl s

theorem enqueue_counts (k attempt : Nat) (purpose : Purpose) (s : State) :
    Passes AttachedLaw s (enqueue k attempt purpose s) := by
  have hqueued (t : State) : Passes AttachedLaw t { t with rge := { t.rge with queue := t.rge.queue ++ [k] } } :=
    counts_of_parts rfl rfl
  exact ((hqueued s).trans (setRegistration_counts ..)).trans (sendQueued_passes_of_build
    (fun {k rest l t} _ _ _ => .trans (t := { t with rge := { t.rge with queue := rest } }) (counts_of_parts rfl rfl)
      (buildRequest_counts k l _)) _)

theorem failAttempt_counts (k : Nat) (s : State) : Passes AttachedLaw s (failAttempt k s) := by
  unfold failAttempt
  split
  · exact enqueue_counts ..
  · exact turnAway_counts ..
  · exact (losePartner_counts ..).trans (beyond_counts (setCond_beyond ..))
  · exact .refl s

theorem takeAnswer_counts (o : Outstanding) (accept : Bool) (cause : Nat) (s : State) :
    Passes AttachedLaw s (takeAnswer o accept cause s) := by
  unfold takeAnswer
  refine .ite (fun _ => .refl s) fun _ => ?_
  split
  · exact .refl s
  · split
    · refine .ite (fun _ => enqueue_counts ..) fun _ => ?_
      split
      · exact admitPartner_counts ..
      · exact settlePartner_counts ..
      · exact turnAway_counts ..
      · exact losePartner_counts ..
    · exact .refl s

theorem reevaluateContext_counts (k : Nat) (s : State) : Passes AttachedLaw s (reevaluateContext k s) := by
  have hcancel := cancelRegistration_counts k s
  unfold reevaluateContext
  split
  · exact .refl s
  · refine .ite (fun _ => ?_) fun _ => .refl s
    dsimp only
    split
    · exact (hcancel.trans (modContext_counts k _)).trans (restrict_counts ..)
    · exact (hcancel.trans (modContext_counts k _)).trans (restrict_counts ..)
    · exact .ite (fun _ => .refl s) fun _ => .ite (fun _ => enqueue_counts ..) fun _ => .refl s

theorem subReregister_counts (k : Nat) (s : State) : Passes AttachedLaw s (subReregister k s).state := by
  unfold subReregister
  split
  · exact .refl s
  · split
    · exact .refl s
    · split
      · split
        · exact .refl s
        · exact .refl s
        · exact enqueue_counts ..
      · exact .refl s

/-- Every registration gone, every context stays at its cell. -/
theorem rgeRestartEffect_counts (s : State) : Passes AttachedLaw s (rgeRestartEffect s) := by
  refine ⟨fun ⟨horder, hcount⟩ => ⟨?_, fun c => (hcount c).trans ?_⟩⟩
  · exact List.pairwise_map.mpr horder
  · show _ = ((s.sbt.contexts.map _).filter _).length
    rw [List.filter_map, List.length_map]
    rfl

theorem reattach_counts {sid : Sid} (c : CellId) (h : s.holderOf sid = some (k, x)) :
    Passes AttachedLaw s (reattach k x c s) := by
  refine ⟨fun hlaw => ?_⟩
  have hx : s.context k = some x := (Assoc.get_eq_some_iff _ hlaw.1 k x).mpr (List.mem_of_find?_eq_some h)
  have hsent (y : Context) (t : State) : Beyond t (sendAdmit k y t) :=
    .ite (sendDeck_beyond ..) ((sendDeck_beyond ..).trans (sendDeck_beyond ..))
  have hrefused (cause : RefuseCause) : Passes AttachedLaw s (sendDeck c (.refuse cause x.sid) s) :=
    beyond_counts (sendDeck_beyond ..)
  have hmoved : Passes AttachedLaw s (reattach k x c s) :=
    .ite (fun _ => hrefused _) fun _ => .ite (fun _ => hrefused _) fun _ =>
      .ite (fun _ => (moveContext_counts hx c).trans (beyond_counts (hsent ..))) fun _ => moveContext_counts hx c
  exact hmoved.keeps hlaw

theorem newAttach_counts (c : CellId) (sid : Sid) (s : State) : Passes AttachedLaw s (newAttach c sid s) := by
  have hdecided (k : Nat) (e : PartnerEntry) (t : State) : Passes AttachedLaw t (partnerDecision k c sid e t) := by
    unfold partnerDecision
    split
    · exact (beyond_counts (sendDeck_beyond ..)).trans (freeContext_counts ..)
    · exact (modContext_counts k t).trans (admitContext_counts ..)
    · exact (modContext_counts k t).trans (enqueue_counts ..)
  exact .ite (fun _ => beyond_counts (sendDeck_beyond ..)) fun _ =>
    .ite (fun _ => beyond_counts (sendDeck_beyond ..)) fun _ => (allocate_counts (s.newContext c sid) s).trans (hdecided ..)

end

/-! ### The obligation -/

/-- The operations on contexts keep the attached counts true. -/
theorem attachedLaw_keeps : ContextKeeps AttachedLaw where
  beyond := beyond_counts
  fresh hcontexts hattached _ _ _ _ :=
    ⟨by rw [ContextsInOrder, hcontexts]; exact .nil, fun c => by rw [hattached, hcontexts]; rfl⟩
  close := closeAccumulator_counts
  sweep := sweepContext_counts
  orphan := orphanContext_counts
  complete _ _ := completeCounts_counts ..
  release _ _ _ := releaseContext_counts ..
  grace := graceOver_counts
  serviceOff := serviceOffContext_counts
  restart := restartContext_counts
  serve _ _ := serveContext_counts ..
  dropTickets _ _ := counts_of_parts rfl rfl
  entry := takeEntry_counts
  grant := quotaGrant_counts
  build {_ rest _ s} _ _ _ :=
    .trans (t := { s with rge := { s.rge with queue := rest } }) (counts_of_parts rfl rfl) (buildRequest_counts ..)
  removeEntry _ _ := counts_of_parts rfl rfl
  fail := failAttempt_counts
  answer := takeAnswer_counts
  reevaluate := reevaluateContext_counts
  reregister := subReregister_counts
  rgeRestart := rgeRestartEffect_counts
  reattach := reattach_counts
  newAttach := newAttach_counts

/-- Settles O6: every operation on contexts keeps the counts, and every command is made of them. -/
theorem attachedCountsStayTrue : Obligations.AttachedCountsStayTrue := fun _ _ hlaw hstep =>
  (attachedLaw_keeps.step_passes hstep).keeps hlaw

end Sys2Proof.Proofs
end

section
/-! SUPPORT. The restriction change and the quota debit (R115, R161 to R163): what each makes of the context, of the frames to the cells,
of the attention list and of the conditions. -/

namespace Sys2Proof.Proofs

open Sys2Proof.Machine

variable {k : Nat} {x y : Context} {s t u : State}

/-- Handling a context leaves every other. -/
theorem Handled.context_ne {made : List (Volume × CloseReason)} (h : Handled k x y made s t) {j : Nat} (hj : j ≠ k) :
    t.context j = s.context j := by
  rw [State.context, State.context, ← Assoc.get_erase_ne _ hj, h.others, Assoc.get_erase_ne _ hj]

theorem put_put {α : Type} (l : List (Nat × α)) (k : Nat) (v w : α) : Assoc.put (Assoc.put l k v) k w = Assoc.put l k w := by
  induction l with
  | nil => simp [Assoc.put]
  | cons e t ih =>
    obtain ⟨j, u⟩ := e
    simp only [Assoc.put]
    split
    next => simp [Assoc.put]
    next hlt =>
      split
      next => simp [Assoc.put]
      next hne => simp [Assoc.put, hlt, hne, ih]

theorem setContext_setContext (k : Nat) (x y : Context) (s : State) : setContext k y (setContext k x s) = setContext k y s := by
  simp only [setContext, put_put]

/-! ### RESTRICT and LIFT (R115) -/

theorem isEmpty_iff {r : Restrictions} : r.isEmpty = true ↔ r = ⟨false, false, false⟩ := by
  obtain ⟨quota, backlog, zone⟩ := r
  simp [Restrictions.isEmpty, and_assoc]

/-- The frame that tells the unit of a context of its new restriction set, if any. -/
def turnFrames (k : Nat) (x : Context) (new : Restrictions) (s : State) : List (CellId × DeckFrame) :=
  if x.state = .active ∧ (s.cell x.cell).state.joined = true then
    if x.restrictions = ⟨false, false, false⟩ ∧ new ≠ ⟨false, false, false⟩ then [(x.cell, .restrict x.sid k)]
    else if x.restrictions ≠ ⟨false, false, false⟩ ∧ new = ⟨false, false, false⟩ then [(x.cell, .lift x.sid k)]
    else []
  else []

/-- Frames after those sent to the cells. -/
def sendFrames (frames : List (CellId × DeckFrame)) (s : State) : State :=
  { s with ports := { s.ports with deck := s.ports.deck ++ frames } }

theorem sendFrames_nil (s : State) : sendFrames [] s = s := by simp [sendFrames]

theorem sendDeck_eq (c : CellId) (f : DeckFrame) (s : State) :
    sendDeck c f s = sendFrames (if (s.cell c).state.joined = true then [(c, f)] else []) s := by
  unfold sendDeck
  split
  · rfl
  · exact (sendFrames_nil s).symm

theorem restrict_eq (h : s.context k = some x) (f : Restrictions → Restrictions) :
    restrict k f s
      = sendFrames (turnFrames k x (f x.restrictions) s) (setContext k { x with restrictions := f x.restrictions } s) := by
  unfold restrict turnFrames
  rw [h]
  simp only [sendDeck_eq, ← isEmpty_iff, ne_eq]
  by_cases hactive : x.state = .active
  · by_cases hbefore : x.restrictions.isEmpty = true <;> by_cases hafter : (f x.restrictions).isEmpty = true <;>
      simp [hactive, hbefore, hafter, sendFrames_nil]
  · simp [hactive, sendFrames_nil]

/-! ### The attention list (R162, R163) -/

/-- An entry of the attention list, upgraded to EMPTY where it is that of the context. -/
def upgraded (k : Nat) (e : Nat × AttentionReason) : Nat × AttentionReason := if e.1 == k then (k, .empty) else e

theorem upgraded_fst (k : Nat) (e : Nat × AttentionReason) : (upgraded k e).1 = e.1 := by
  by_cases he : e.1 = k <;> simp [upgraded, he]

/-- The context stands on the list as EMPTY, at the tail if it was not listed, with QUOTA_ATTENTION set if that is new. -/
theorem joinAttention_empty (k : Nat) (s : State) :
    ((joinAttention k .empty s).rte.attention.find? (fun e => e.1 == k)).map Prod.snd = some .empty
      ∧ (joinAttention k .empty s).rte.attention.map Prod.fst
        = (if s.rte.attention.any (fun e => e.1 == k) then s.rte.attention.map Prod.fst else s.rte.attention.map Prod.fst ++ [k])
      ∧ ((s.rte.attention.find? (fun e => e.1 == k)).map Prod.snd ≠ some .empty →
        (joinAttention k .empty s).condSet .quotaAttention = true) := by
  unfold joinAttention
  split
  next hfind =>
    have hany : s.rte.attention.any (fun e => e.1 == k) = false := by simpa using hfind
    simp [hfind, hany]
  next e hfind =>
    have hkey : (e.1 == k) = true := List.find?_some (p := fun e : Nat × AttentionReason => e.1 == k) hfind
    have hany : s.rte.attention.any (fun e => e.1 == k) = true := List.any_of_mem (List.mem_of_find?_eq_some hfind) hkey
    obtain ⟨j, reason⟩ := e
    cases reason with
    | empty => simp [hfind, hany]
    | low =>
      have hseek : ((fun e => e.1 == k) ∘ upgraded k) = fun e => e.1 == k := funext fun e => by simp [upgraded_fst]
      have hnames : (setCond .quotaAttention { s with rte := { s.rte with attention := s.rte.attention.map (upgraded k) } }
          ).rte.attention.map Prod.fst = s.rte.attention.map Prod.fst := by
        simp [upgraded_fst]
      have hfound : ((setCond .quotaAttention { s with rte := { s.rte with attention := s.rte.attention.map (upgraded k) } }
          ).rte.attention.find? fun e => e.1 == k) = some (upgraded k (j, .low)) := by
        simp only [setCond_rte, List.find?_map, hseek, hfind, Option.map_some]
      refine ⟨?_, ?_, fun _ => setCond_condSet_self ..⟩
      · exact (congrArg _ hfound).trans (congrArg some (congrArg Prod.snd (if_pos hkey)))
      · rw [if_pos hany]
        exact hnames

/-- A listed context stays as it is, another joins at the tail as LOW. -/
theorem joinAttention_low (k : Nat) (s : State) :
    (joinAttention k .low s).rte.attention
        = (if s.rte.attention.any (fun e => e.1 == k) then s.rte.attention else s.rte.attention ++ [(k, .low)])
      ∧ (s.rte.attention.any (fun e => e.1 == k) = false → (joinAttention k .low s).condSet .quotaAttention = true) := by
  unfold joinAttention
  split
  next hfind =>
    have hany : s.rte.attention.any (fun e => e.1 == k) = false := by simpa using hfind
    simp [hany]
  next e hfind =>
    have hany : s.rte.attention.any (fun e => e.1 == k) = true :=
      List.any_of_mem (List.mem_of_find?_eq_some hfind) (List.find?_some (p := fun e : Nat × AttentionReason => e.1 == k) hfind)
    simp [hany]

/-- Nothing changes but the contexts, the attention list, the conditions, the pending notice and the frames to the cells. -/
def Warned (s t : State) : Prop :=
  ∃ contexts attention conditions notice deck,
    t =
      { s with
        sbt := { s.sbt with contexts := contexts }
        rte := { s.rte with attention := attention }
        ctp := { s.ctp with conditions := conditions, noticePending := notice }
        ports := { s.ports with deck := deck } }

theorem Warned.refl (s : State) : Warned s s := ⟨_, _, _, _, _, rfl⟩

theorem Warned.trans (h : Warned s t) (g : Warned t u) : Warned s u := by
  obtain ⟨_, _, _, _, _, rfl⟩ := h
  obtain ⟨_, _, _, _, _, rfl⟩ := g
  exact ⟨_, _, _, _, _, rfl⟩

theorem joinAttention_warned (k : Nat) (r : AttentionReason) (s : State) : Warned s (joinAttention k r s) := by
  unfold joinAttention
  split
  · exact ⟨_, _, _, _, _, rfl⟩
  · split
    · exact ⟨_, _, _, _, _, rfl⟩
    · exact .refl s

/-- Joining the list as EMPTY or LOW leaves the context and the frames. -/
theorem joinAttention_sbt (k : Nat) (r : AttentionReason) (s : State) :
    (joinAttention k r s).sbt = s.sbt ∧ (joinAttention k r s).ports = s.ports := by
  unfold joinAttention
  split
  · exact ⟨rfl, rfl⟩
  · split <;> exact ⟨rfl, rfl⟩

/-! ### The debit (R161) -/

/-- A context whose owner has been notified, or not yet. -/
def notified (b : Bool) (x : Context) : Context := { x with quota := { x.quota with lowNotified := b } }

/-- A context put on the attention list and its low-notified flag set. -/
def attend (k : Nat) (x : Context) (r : AttentionReason) (s : State) : State :=
  setContext k (notified true x) (joinAttention k r s)

theorem markNotified_joinAttention (h : s.context k = some x) (r : AttentionReason) :
    markNotified k (joinAttention k r s) = attend k x r s :=
  modContext_eq (by rw [State.context, (joinAttention_sbt k r s).1]; exact h)

theorem notifyQuota_eq (h : s.context k = some x) (before : Nat) (q : Quota) :
    notifyQuota k before q s
      = if 0 < before ∧ q.balance = 0 then attend k x .empty s
        else if q.lowNotified = false ∧ q.balance ≤ q.threshold then attend k x .low s
        else s := by
  unfold notifyQuota
  rw [markNotified_joinAttention h, markNotified_joinAttention h]

/-- The notice writes no more than the flag into the context, and sends nothing. -/
theorem notifyQuota_keeps (h : s.context k = some x) (before : Nat) (q : Quota) :
    (∃ b, (notifyQuota k before q s).context k = some (notified b x)) ∧ (notifyQuota k before q s).ports = s.ports
      ∧ Warned s (notifyQuota k before q s) := by
  have hattend (r : AttentionReason) : (∃ b, (attend k x r s).context k = some (notified b x)) ∧ (attend k x r s).ports = s.ports
      ∧ Warned s (attend k x r s) :=
    ⟨⟨true, setContext_context_self ..⟩, (joinAttention_sbt k r s).2,
      (joinAttention_warned k r s).trans ⟨_, _, _, _, _, rfl⟩⟩
  rw [notifyQuota_eq h]
  split
  · exact hattend .empty
  · split
    · exact hattend .low
    · exact ⟨⟨x.quota.lowNotified, h⟩, rfl, .refl s⟩

/-- A context after a debit from its limited quota. -/
def afterDebit (d : Nat) (x : Context) : Context :=
  { x with
    quota := x.quota.debited d
    restrictions := if d < x.quota.balance then x.restrictions else { x.restrictions with quota := true } }

/-- The frames a debit sends. -/
def debitFrames (k d : Nat) (x : Context) (s : State) : List (CellId × DeckFrame) :=
  if d < x.quota.balance then [] else turnFrames k x { x.restrictions with quota := true } s

/-- A debited state, before the notice. -/
def taken (k d : Nat) (x : Context) (s : State) : State :=
  sendFrames (debitFrames k d x s) (setContext k (afterDebit d x) s)

theorem taken_context : (taken k d x s).context k = some (afterDebit d x) := setContext_context_self ..

theorem debit_eq (h : s.context k = some x) (hlimited : x.quota.unlimited = false) (d : Nat) :
    debit k d s = notifyQuota k x.quota.balance (x.quota.debited d) (taken k d x s) := by
  unfold debit taken afterDebit debitFrames
  rw [h]
  dsimp only
  rw [hlimited]
  by_cases hd : d < x.quota.balance
  · simp [hd, sendFrames_nil]
  · have hset : (setContext k { x with quota := x.quota.debited d } s).context k = some { x with quota := x.quota.debited d } :=
      setContext_context_self ..
    simp only [hd, if_false, Bool.false_eq_true, restrict_eq hset, setContext_setContext]
    rfl

theorem debit_none (h : s.context k = none) (d : Nat) : debit k d s = s := by rw [debit, h]

theorem debit_unlimited (h : s.context k = some x) (hunlimited : x.quota.unlimited = true) (d : Nat) : debit k d s = s := by
  rw [debit, h]
  exact if_pos hunlimited

theorem debited_below {q : Quota} {d : Nat} (h : d < q.balance) : q.debited d = { q with balance := q.balance - d } := if_pos h

theorem debited_above {q : Quota} {d : Nat} (h : q.balance ≤ d) :
    q.debited d = { q with balance := 0, overrun := min maxMoney (q.overrun + (d - q.balance)) } := if_neg (Nat.not_lt.mpr h)

theorem debit_warned (k d : Nat) (s : State) : Warned s (debit k d s) := by
  cases h : s.context k with
  | none => rw [debit_none h]; exact .refl s
  | some x =>
    cases hlimit : x.quota.unlimited with
    | true => rw [debit_unlimited h hlimit]; exact .refl s
    | false =>
      rw [debit_eq h hlimit]
      exact .trans ⟨_, _, _, _, _, rfl⟩ (notifyQuota_keeps taken_context ..).2.2

/-! ### The obligation -/

/-- Where the balance covers the debit it falls, with no overrun, no restriction and no frame. -/
theorem debit_covered (h : s.context k = some x) (hlimited : x.quota.unlimited = false) {d : Nat} (hd : d < x.quota.balance) :
    ((debit k d s).context k).map (fun y => y.quota.balance) = some (x.quota.balance - d)
      ∧ ((debit k d s).context k).map (fun y => y.quota.overrun) = some x.quota.overrun
      ∧ ((debit k d s).context k).map Context.restrictions = some x.restrictions ∧ (debit k d s).ports = s.ports := by
  obtain ⟨⟨b, hcontext⟩, hports, -⟩ := notifyQuota_keeps (s := taken k d x s) taken_context x.quota.balance (x.quota.debited d)
  rw [debit_eq h hlimited, hcontext, hports]
  simp [notified, afterDebit, debited_below hd, taken, debitFrames, hd, sendFrames_nil]

/-- Where it does not, the balance is spent, the overrun takes the rest, and the context is restricted under QUOTA. -/
theorem debit_spent (h : s.context k = some x) (hlimited : x.quota.unlimited = false) {d : Nat} (hd : x.quota.balance ≤ d) :
    ((debit k d s).context k).map (fun y => y.quota.balance) = some 0
      ∧ ((debit k d s).context k).map (fun y => y.quota.overrun) = some (min maxMoney (x.quota.overrun + (d - x.quota.balance)))
      ∧ ((debit k d s).context k).map Context.restrictions = some { x.restrictions with quota := true }
      ∧ (debit k d s).ports.deck
        = s.ports.deck
          ++ (if x.state = .active ∧ x.restrictions = ⟨false, false, false⟩ ∧ (s.cell x.cell).state.joined = true then
              [(x.cell, .restrict x.sid k)]
            else []) := by
  obtain ⟨⟨b, hcontext⟩, hports, -⟩ := notifyQuota_keeps (s := taken k d x s) taken_context x.quota.balance (x.quota.debited d)
  have hnot : ¬ d < x.quota.balance := Nat.not_lt.mpr hd
  rw [debit_eq h hlimited, hcontext, hports]
  refine ⟨?_, ?_, ?_, ?_⟩
  · simp [notified, afterDebit, debited_above hd]
  · simp [notified, afterDebit, debited_above hd]
  · simp [notified, afterDebit, hnot]
  · have hframes : debitFrames k d x s
        = if x.state = .active ∧ x.restrictions = ⟨false, false, false⟩ ∧ (s.cell x.cell).state.joined = true then
            [(x.cell, .restrict x.sid k)]
          else [] := by
      by_cases hactive : x.state = .active <;> by_cases hjoined : (s.cell x.cell).state.joined = true <;>
        by_cases hempty : x.restrictions = ⟨false, false, false⟩ <;>
          simp [debitFrames, turnFrames, hnot, hactive, hjoined, hempty]
    rw [← hframes]
    rfl

/-- The notice of a debit in terms of the quota before it (R162). -/
theorem debit_notice (h : s.context k = some x) (hlimited : x.quota.unlimited = false) (d : Nat) :
    debit k d s
      = if 0 < x.quota.balance ∧ x.quota.balance ≤ d then attend k (afterDebit d x) .empty (taken k d x s)
        else if x.quota.lowNotified = false ∧ x.quota.balance - d ≤ x.quota.lastGrant * x.quota.lowMark / 1000 then
          attend k (afterDebit d x) .low (taken k d x s)
        else taken k d x s := by
  have hlow : (x.quota.debited d).lowNotified = x.quota.lowNotified ∧ (x.quota.debited d).threshold = x.quota.threshold
      ∧ (x.quota.debited d).balance = x.quota.balance - d := by
    rcases Nat.lt_or_ge d x.quota.balance with hd | hd
    · rw [debited_below hd]
      exact ⟨rfl, rfl, rfl⟩
    · rw [debited_above hd]
      exact ⟨rfl, rfl, (Nat.sub_eq_zero_of_le hd).symm⟩
  obtain ⟨hflag, hthreshold, hbalance⟩ := hlow
  rw [debit_eq h hlimited, notifyQuota_eq taken_context, hflag, hthreshold, hbalance]
  simp only [Nat.sub_eq_zero_iff_le]
  rfl

theorem attend_notified (x : Context) (r : AttentionReason) (s : State) :
    ((attend k x r s).context k).map (fun y => y.quota.lowNotified) = some true := by
  rw [attend, setContext_context_self]
  rfl

/-- Settles O54, by the branches of the debit and of the notice after it. -/
theorem quotaDebit : Obligations.QuotaDebit := by
  intro s k d f
  refine ⟨fun h => ?_, fun x h hlimited => ⟨debit_covered h hlimited, debit_spent h hlimited⟩, fun x h hlimited => ?_,
    fun j hj => ?_, ?_, fun h => by rw [restrict, h], fun x h => restrict_eq h f⟩
  · rcases h with h | h
    · exact debit_none h d
    · cases hx : s.context k with
      | none => exact debit_none hx d
      | some x => exact debit_unlimited hx (by simpa [hx] using h) d
  · rw [debit_notice h hlimited]
    split
    · exact ⟨attend_notified .., joinAttention_empty k (taken k d x s)⟩
    · split
      · exact ⟨attend_notified .., joinAttention_low k (taken k d x s)⟩
      · refine ⟨?_, rfl, rfl⟩
        rw [taken_context]
        rcases Nat.lt_or_ge d x.quota.balance with hd | hd
        · simp [afterDebit, debited_below hd]
        · simp [afterDebit, debited_above hd]
  · cases h : s.context k with
    | none => rw [debit_none h]
    | some x =>
      obtain ⟨q, b, hbilled⟩ := debit_billed h d
      exact hbilled.context_ne hj
  · obtain ⟨_, _, _, _, _, hwritten⟩ := debit_warned k d s
    rw [hwritten]

end Sys2Proof.Proofs
end

section
/-! SUPPORT. The release of a context (R107 to R112, R132, R159): the registration withdrawn, the accumulator closed into a ticket, and the
context freed, or LEAVING with its held usage. -/

namespace Sys2Proof.Proofs

open Sys2Proof.Machine

variable {k : Nat} {x y : Context} {s t u v : State}

/-! ### The registration withdrawn (R132) -/

/-- A context's registration is out of the queue, or its outstanding entries are abandoned. -/
def Withdrawn (k : Nat) (x : Context) (t : State) : Prop :=
  match x.registration with
  | .none => True
  | .queued _ _ => k ∉ t.rge.queue
  | .sent _ _ => ∀ o ∈ t.rge.outstanding, o.ctx = k → o.abandoned = true

theorem Withdrawn.of_rge (h : Withdrawn k x u) (queue : t.rge.queue = u.rge.queue)
    (outstanding : t.rge.outstanding = u.rge.outstanding) : Withdrawn k x t := by
  unfold Withdrawn at *
  rwa [queue, outstanding]

/-- Cancelling sets the registration to NONE, and writes nothing else but the RGE's queue and table. -/
structure Cancelled (k : Nat) (x : Context) (s t : State) : Prop where
  billed : Billed k x { x with registration := .none } [] s t
  withdrawn : Withdrawn k x t
  tkq : t.tkq = s.tkq
  ports : t.ports = s.ports

theorem setRegistration_eq (h : s.context k = some x) (r : Registration) :
    setRegistration k r s = setContext k { x with registration := r } s := modContext_eq h

theorem cancelRegistration_cancelled (h : s.context k = some x) : Cancelled k x s (cancelRegistration k s) := by
  have hcancelled (q : List Nat) (l : List Outstanding)
      (hwithdrawn : ∀ t : State, t.rge.queue = q → t.rge.outstanding = l → Withdrawn k x t) :
      Cancelled k x s (setRegistration k .none { s with rge := { s.rge with queue := q, outstanding := l } }) := by
    have hrge : Billed k x x [] s { s with rge := { s.rge with queue := q, outstanding := l } } :=
      .of_parts h rfl (.of_ctp rfl) rfl rfl
    have hbilled := hrge.step (setRegistration_billed hrge.after .none)
    rw [setRegistration_eq hrge.after] at hbilled ⊢
    exact ⟨hbilled, hwithdrawn _ rfl rfl, rfl, rfl⟩
  unfold cancelRegistration
  rw [h, Option.map_some]
  cases hx : x.registration with
  | none =>
    have hsame : ({ x with registration := .none } : Context) = x := by rw [← hx]
    exact ⟨hsame.symm ▸ .refl h, by rw [Withdrawn, hx]; trivial, rfl, rfl⟩
  | queued attempt purpose =>
    refine hcancelled _ _ fun t hqueue _ => ?_
    rw [Withdrawn, hx]
    simp [hqueue]
  | sent attempt purpose =>
    refine hcancelled _ _ fun t _ houtstanding => ?_
    rw [Withdrawn, hx]
    simp only [houtstanding, List.mem_map, forall_exists_index, and_imp]
    rintro _ o - rfl hctx
    by_cases habandoned : o.abandoned = true
    · simp [habandoned]
    · by_cases ho : o.ctx = k
      · simp [ho, habandoned]
      · simp [ho] at hctx

/-! ### The ticket of a closing (R159, R168) -/

theorem appendTicket_tickets (v : Ticket) (s : State) : (appendTicket v s).tkq.tickets = s.tkq.tickets ++ [v] := by
  unfold appendTicket
  dsimp only
  split <;> rfl

theorem debit_tkq (k d : Nat) (s : State) : (debit k d s).tkq = s.tkq := by
  obtain ⟨_, _, _, _, _, hwritten⟩ := debit_warned k d s
  rw [hwritten]

/-- A ticket made when a record of a context is closed with a reason, with the next sequence number. -/
def TicketOf (k : Nat) (x : Context) (a : Accumulator) (reason : CloseReason) (s : State) (v : Ticket) : Prop :=
  v.seq = s.tkq.nextSeq ∧ v.ctx = k ∧ v.sid = x.sid ∧ v.reason = reason ∧ v.key = a.key

/-- An open accumulator goes into one ticket at the tail. -/
theorem closeAccumulator_ticket (h : s.context k = some x) {a : Accumulator} (ha : x.accumulator = some a) (reason : CloseReason) :
    ∃ v, (closeAccumulator k reason s).tkq.tickets = s.tkq.tickets ++ [v] ∧ TicketOf k x a reason s v := by
  have hkey : a.settled.key = a.key := congrArg Volume.key (settled_volume a)
  have hmade (w : State) (y : Context) (hw : w.tkq = s.tkq) (hy : w.context k = some y) (hsid : y.sid = x.sid) :
      ∃ v, (modContext k (fun x => { x with accumulator := none }) (appendTicket (ticketOf k y a.settled reason w) w)).tkq.tickets
          = s.tkq.tickets ++ [v] ∧ TicketOf k x a reason s v := by
    have happended := appendTicket_billed (v := ticketOf k y a.settled reason w) hy rfl rfl
    refine ⟨ticketOf k y a.settled reason w, ?_, congrArg Tkq.nextSeq hw, rfl, hsid, rfl, hkey⟩
    rw [modContext_eq happended.after, setContext_tkq, appendTicket_tickets, hw]
  have hsettled : ∃ w y, (if a.unsettled then debit k a.settlement s else s) = w ∧ w.tkq = s.tkq ∧ w.context k = some y
      ∧ y.sid = x.sid := by
    split
    · obtain ⟨q, b, hdebit⟩ := debit_billed h a.settlement
      exact ⟨_, _, rfl, debit_tkq .., hdebit.after, hdebit.sid⟩
    · exact ⟨s, x, rfl, rfl, h, rfl⟩
  obtain ⟨w, y, hw, htkq, hy, hsid⟩ := hsettled
  have hhanded : handOver k a reason s = appendTicket (ticketOf k y a.settled reason w) w := by
    unfold handOver
    dsimp only
    rw [hw, hy]
  unfold closeAccumulator
  rw [h, Option.bind_some, ha]
  dsimp only
  rw [hhanded]
  exact hmade w y htkq hy hsid

theorem closeAccumulator_empty (h : s.context k = some x) (ha : x.accumulator = none) (reason : CloseReason) :
    closeAccumulator k reason s = s := by
  rw [closeAccumulator, h, Option.bind_some, ha]

/-- What becomes of the tickets when a context's accumulator, if open, is closed. -/
def Closed (k : Nat) (x : Context) (reason : CloseReason) (s t : State) : Prop :=
  (x.accumulator = none → t.tkq = s.tkq)
    ∧ ∀ a ∈ x.accumulator, ∃ v, t.tkq.tickets = s.tkq.tickets ++ [v] ∧ TicketOf k x a reason s v

theorem closeAccumulator_closed (h : s.context k = some x) (reason : CloseReason) :
    Closed k x reason s (closeAccumulator k reason s) :=
  ⟨fun ha => by rw [closeAccumulator_empty h ha], fun _ ha => closeAccumulator_ticket h ha reason⟩

theorem closeAccumulator_rge (k : Nat) (reason : CloseReason) (s : State) :
    (closeAccumulator k reason s).rge.queue = s.rge.queue
      ∧ (closeAccumulator k reason s).rge.outstanding = s.rge.outstanding := by
  have h := (closeAccumulator_settled k reason s).rge
  generalize (closeAccumulator k reason s).rge = r at h ⊢
  obtain ⟨-, hqueue, houtstanding, -⟩ := Rge.mk.inj h
  exact ⟨hqueue, houtstanding⟩

/-! ### Freeing (R97, R108) -/

theorem freeContext_context_self (h : s.context k = some x) : (freeContext k s).context k = none := by
  rw [State.context, freeContext_contexts h]
  exact Assoc.get_erase_self ..

theorem freeContext_attention (h : s.context k = some x) :
    (freeContext k s).rte.attention = s.rte.attention.filter fun e => e.1 != k := by
  rw [freeContext, h]
  rfl

theorem freeContext_rge (k : Nat) (s : State) : (freeContext k s).rge = s.rge := by
  unfold freeContext
  split <;> rfl

/-! ### The release (R107) -/

/-- The context is FREE, off its cell's count and off the attention list, and its accumulator, if open, closed into a ticket. -/
def Freed (reason : CloseReason) (k : Nat) (x : Context) (s t : State) : Prop :=
  t.context k = none ∧ (t.cell x.cell).attached = (s.cell x.cell).attached - 1
    ∧ (t.rte.attention.all fun e => e.1 != k) = true ∧ Closed k x reason s t

/-- The context is LEAVING with its held usage, its counts complete. -/
def Stays (reason : LeaveReason) (k : Nat) (x : Context) (t : State) : Prop :=
  ∃ y, t.context k = some y ∧ y.state = .leaving ∧ y.leaving = some ⟨reason, true⟩ ∧ y.held = x.held ∧ y.accumulator = none
    ∧ y.orphan = none ∧ y.registration = .none

/-- A context released with a reason. -/
structure Released (reason : LeaveReason) (k : Nat) (x : Context) (s t : State) : Prop where
  freed : x.held = none → Freed reason.close k x s t
  stays : x.held.isSome = true → Stays reason k x t
  withdrawn : Withdrawn k x t
  others (j : Nat) : j ≠ k → t.context j = s.context j

theorem releaseContext_charges (h : s.context k = some x) (reason : LeaveReason) : Charges s (releaseContext k reason s) := by
  have hcancelled := (cancelRegistration_cancelled h).billed
  obtain ⟨q, b, hclosed⟩ := closeAccumulator_billed hcancelled.after reason.close
  have hall := hcancelled.step hclosed
  unfold releaseContext
  dsimp only
  split
  · exact hall.charges.trans (modContext_billed
      (f := fun x => { x with state := .leaving, orphan := none, leaving := some ⟨reason, true⟩ }) hall.after rfl rfl).charges
  · exact hall.charges.trans (freeContext_charges ..)

theorem releaseContext_deck (h : s.context k = some x) (reason : LeaveReason) :
    s.ports.deck <+: (releaseContext k reason s).ports.deck := by
  have hcancelled : s.ports.deck <+: (cancelRegistration k s).ports.deck := by rw [(cancelRegistration_cancelled h).ports]
  have hclosed := hcancelled.trans (closeAccumulator_settled k reason.close (cancelRegistration k s)).deck
  unfold releaseContext
  dsimp only
  split
  · exact hclosed.trans (modContext_charged ..).deck
  · exact hclosed.trans (freeContext_charged ..).deck

theorem releaseContext_released (h : s.context k = some x) (reason : LeaveReason) :
    Released reason k x s (releaseContext k reason s) := by
  have hcancelled := cancelRegistration_cancelled h
  obtain ⟨q, b, hclosed⟩ := closeAccumulator_billed hcancelled.billed.after reason.close
  have hall := hcancelled.billed.step hclosed
  have hholds : (closeAccumulator k reason.close (cancelRegistration k s)).holds k = x.held.isSome := by
    rw [State.holds, hclosed.after]
    rfl
  have hticket : Closed k x reason.close s (closeAccumulator k reason.close (cancelRegistration k s)) := by
    have hclose := closeAccumulator_closed hcancelled.billed.after reason.close
    rw [Closed, hcancelled.tkq] at hclose
    simpa only [Closed, TicketOf, hcancelled.tkq] using hclose
  obtain ⟨hqueue, houtstanding⟩ := closeAccumulator_rge k reason.close (cancelRegistration k s)
  have hwithdrawn := hcancelled.withdrawn.of_rge hqueue houtstanding
  unfold releaseContext
  dsimp only
  rw [hholds]
  cases hheld : x.held with
  | none =>
    refine ⟨fun _ => ⟨freeContext_context_self hclosed.after, ?_, ?_, ?_⟩, fun h => by simp [hheld] at h, ?_, fun j hj => ?_⟩
    · have hcell : (closeAccumulator k reason.close (cancelRegistration k s)).cell x.cell = s.cell x.cell :=
        hall.part (fun u => u.cell x.cell) fun _ => rfl
      have hfree := freeContext_attached hclosed.after x.cell
      rwa [if_pos hall.cell.symm, hcell] at hfree
    · have hlist := freeContext_attention hclosed.after
      simp [hlist]
    · show Closed k x reason.close s (freeContext k _)
      rwa [Closed, freeContext_tkq]
    · exact hwithdrawn.of_rge (congrArg Rge.queue (freeContext_rge ..)) (congrArg Rge.outstanding (freeContext_rge ..))
    · exact (freeContext_context_ne hj _).trans (hall.context_ne hj)
  | some held =>
    rw [Option.isSome_some, if_pos rfl, modContext_eq hclosed.after]
    exact ⟨fun h => by simp [hheld] at h, fun _ => ⟨_, setContext_context_self .., rfl, rfl, rfl, rfl, rfl, rfl⟩, hwithdrawn,
      fun j hj => (setContext_context_ne hj ..).trans (hall.context_ne hj)⟩

end Sys2Proof.Proofs
end

section
/-! SUPPORT. DETACH, SUB_RELEASE and the grace deadline (R109, R110, R112), and the settling of O48. -/

namespace Sys2Proof.Proofs

open Sys2Proof.Machine

variable {k : Nat} {x : Context} {reason : LeaveReason} {s t u v : State}

/-! ### A release seen from the command's first state to its last -/

/-- A release between two states, where what it reads stood earlier and what it makes stands later. -/
theorem Released.of_ends (h : Released reason k x u v) (attached : ∀ c, (u.cell c).attached = (s.cell c).attached)
    (tkq : u.tkq = s.tkq) (others : ∀ j, j ≠ k → u.context j = s.context j) (beyond : Beyond v t) (rte : t.rte = v.rte)
    (last : t.tkq = v.tkq) : Released reason k x s t := by
  have hcontext (j : Nat) : t.context j = v.context j := by rw [State.context, beyond.contexts]; rfl
  refine ⟨fun hheld => ?_, fun hheld => ?_, h.withdrawn.of_rge beyond.queue beyond.outstanding, fun j hj => ?_⟩
  · obtain ⟨hfree, hattached, hlist, hclosed⟩ := h.freed hheld
    refine ⟨by rwa [hcontext], by rw [beyond.attached, hattached, attached], by rwa [rte], ?_⟩
    simpa only [Closed, TicketOf, last, tkq] using hclosed
  · obtain ⟨y, hy, hkept⟩ := h.stays hheld
    exact ⟨y, by rwa [hcontext], hkept⟩
  · rw [hcontext, h.others j hj, others j hj]

theorem onlyCharging_refreshLamp (h : OnlyCharging s t) : OnlyCharging s (refreshLamp t) := by
  obtain ⟨hstate, hcells⟩ := h
  unfold refreshLamp
  split
  · exact ⟨hstate, hcells⟩
  · exact ⟨congrArg (fun u : State =>
      { u with duc := { u.duc with lamp := { t.duc.lamp with pattern := t.lampWanted, since := t.shipTime } } }) hstate, hcells⟩

/-- Charging by the rule of a request, its arrival and its reply apart. -/
theorem Charges.replied {e : InEntry} (h : Charges (arrived e s) u) (tag : Nat) (status : Status) (reply : List Byte)
    (ht : t = refreshLamp (appendReply tag status reply u)) :
    OnlyCharging { s with ctp := { s.ctp with inbound := t.ctp.inbound, outbound := t.ctp.outbound } } t := by
  obtain ⟨hstate, hcells⟩ := h.onlyCharging
  have hqueues : t.ctp = (appendReply tag status reply u).ctp := by rw [ht, refreshLamp_ctp]
  rw [hqueues, ht]
  exact onlyCharging_refreshLamp ⟨congrArg (fun w : State =>
    { w with
      ctp :=
        { w.ctp with
          inbound := (appendReply tag status reply u).ctp.inbound
          outbound := (appendReply tag status reply u).ctp.outbound } }) hstate, hcells⟩

theorem head_sentSince {e : CellId × DeckFrame} (h : s.ports.deck ++ [e] <+: t.ports.deck) : (s.sentSince t).head? = some e := by
  obtain ⟨more, hmore⟩ := h
  rw [State.sentSince, ← hmore, List.append_assoc, List.drop_left]
  rfl

/-! ### The unit told (R110, R112) -/

/-- The frame that tells a unit that a context is given up. -/
def releaseFrame (k : Nat) (x : Context) : DeckFrame := if x.state = .active then .detach x.sid k else .refuse .retryLater x.sid

theorem tellReleased_eq (k : Nat) (x : Context) (s : State) : tellReleased k x s = sendDeck x.cell (releaseFrame k x) s := by
  unfold tellReleased releaseFrame
  split <;> rfl

theorem tellReleased_billed {y : Context} (h : s.context k = some y) (x : Context) : Billed k y y [] s (tellReleased k x s) := by
  rw [tellReleased_eq]
  exact sendDeck_billed h ..

theorem tellReleased_deck (k : Nat) (x : Context) (s : State) (hjoined : (s.cell x.cell).state.joined = true) :
    (tellReleased k x s).ports.deck = s.ports.deck ++ [(x.cell, releaseFrame k x)] := by
  rw [tellReleased_eq, sendDeck, if_pos hjoined]
  rfl

theorem tellReleased_tkq (k : Nat) (x : Context) (s : State) : (tellReleased k x s).tkq = s.tkq := by
  rw [tellReleased_eq, sendDeck_eq]
  rfl

theorem tellReleased_sbt (k : Nat) (x : Context) (s : State) : (tellReleased k x s).sbt = s.sbt := by
  rw [tellReleased_eq, sendDeck_eq]
  rfl

theorem tellReleased_duc (k : Nat) (x : Context) (s : State) : (tellReleased k x s).duc = s.duc := by
  rw [tellReleased_eq, sendDeck_eq]
  rfl

/-! ### What the statement says of a release -/

/-- A released context in the words of O48. -/
theorem Released.settled (h : Released reason k x s t) :
    (x.held = none →
        t.context k = none ∧ (t.cell x.cell).attached = (s.cell x.cell).attached - 1
          ∧ (t.rte.attention.all (fun e => e.1 != k)) = true
          ∧ (x.accumulator = none → t.tkq = s.tkq)
          ∧ (∀ a ∈ x.accumulator,
            t.tkq.tickets.length = s.tkq.tickets.length + 1
              ∧ (t.tkq.tickets.getLast?).any
                  (fun u => u.seq == s.tkq.nextSeq && u.ctx == k && u.sid == x.sid && u.reason == reason.close && u.key == a.key)
                = true))
      ∧ (x.held.isSome = true →
        (t.context k).map Context.state = some .leaving ∧ (t.context k).bind Context.leaving = some ⟨reason, true⟩
          ∧ (t.context k).bind Context.held = x.held ∧ (t.context k).bind Context.accumulator = none
          ∧ (t.context k).bind Context.orphan = none ∧ (t.context k).map Context.registration = some .none)
      ∧ Withdrawn k x t
      ∧ (∀ j ∈ s.contextIndices, j ≠ k → t.context j = s.context j) := by
  refine ⟨fun hheld => ?_, fun hheld => ?_, h.withdrawn, fun j _ hj => h.others j hj⟩
  · obtain ⟨hfree, hattached, hlist, hsame, hticket⟩ := h.freed hheld
    refine ⟨hfree, hattached, hlist, hsame, fun a ha => ?_⟩
    obtain ⟨v, htickets, hseq, hctx, hsid, hreason, hkey⟩ := hticket a ha
    simp [htickets, hseq, hctx, hsid, hreason, hkey]
  · obtain ⟨y, hy, hstate, hleaving, hkept, haccumulator, horphan, hregistration⟩ := h.stays hheld
    rw [hy]
    exact ⟨congrArg some hstate, hleaving, hkept, haccumulator, horphan, congrArg some hregistration⟩

/-! ### The three commands -/

theorem exec_detach_joined {c : CellId} {sid : Sid} (hsid : sidValid sid = true) (hjoined : (s.cell c).state.joined = true) :
    exec (.detach c.val sid k) s = done (detachAtSbt c sid k s) := by
  show done (match cellAt c.val with | none => s | some c => _) = _
  rw [cellAt_val]
  simp only [hsid, hjoined, Bool.and_self, if_true]

theorem detachAtSbt_own (h : s.context k = some x) (hstate : x.state ≠ .leaving) :
    detachAtSbt x.cell x.sid k s = releaseContext k .detach s := by
  rw [detachAtSbt, h]
  exact if_pos ⟨hstate, rfl, rfl⟩

theorem detachAtSbt_other {c : CellId} {sid : Sid}
    (h : ((s.context k).all fun x => x.state == .leaving || x.sid != sid || x.cell != c) = true) : detachAtSbt c sid k s = s := by
  unfold detachAtSbt
  split
  next => rfl
  next x hx =>
    rw [hx] at h
    refine if_neg fun ⟨hstate, hsid, hcell⟩ => ?_
    simp [hstate, hsid, hcell] at h

theorem subRelease_rule (hk : k < 2048) (h : s.context k = some x) (hstate : x.state ≠ .leaving) :
    subRelease k s = answer .ok (releaseContext k .host (tellReleased k x s)) := by
  rw [subRelease, if_neg (by omega), h]
  exact if_neg hstate

theorem subRelease_badArg (hk : 2047 < k) (s : State) : subRelease k s = answer .badArg s := if_pos hk

theorem subRelease_notFound (hk : k ≤ 2047) (h : s.context k = none) : subRelease k s = answer .notFound s := by
  rw [subRelease, if_neg (Nat.not_lt.mpr hk), h]

theorem subRelease_leaving (hk : k ≤ 2047) (h : (s.context k).any (fun x => x.state == .leaving) = true) :
    subRelease k s = answer .state s := by
  rw [subRelease, if_neg (Nat.not_lt.mpr hk)]
  cases hx : s.context k with
  | none => simp [hx] at h
  | some x => exact if_pos (by simpa [hx] using h)

theorem appendReply_rte (tag : Nat) (status : Status) (reply : List Byte) (s : State) :
    (appendReply tag status reply s).rte = s.rte := rfl

theorem appendReply_tkq (tag : Nat) (status : Status) (reply : List Byte) (s : State) :
    (appendReply tag status reply s).tkq = s.tkq := rfl

/-- A release with the lamp brought up to date. -/
theorem Released.refreshed (h : Released reason k x s t) : Released reason k x s (refreshLamp t) :=
  h.of_ends (fun _ => rfl) rfl (fun _ _ => rfl) (refreshLamp_beyond t) (refreshLamp_rte t) (refreshLamp_tkq t)

/-- DETACH of a context from its own cell (R109). -/
theorem exec_detach_own (h : s.context k = some x) (hstate : x.state ≠ .leaving) (hsid : sidValid x.sid = true)
    (hjoined : (s.cell x.cell).state.joined = true) :
    Next (exec (.detach x.cell.val x.sid k) s) fun t => Released .detach k x s t ∧ OnlyCharging s t := by
  rw [exec_detach_joined hsid hjoined, detachAtSbt_own h hstate]
  exact ⟨_, rfl, (releaseContext_released h .detach).refreshed,
    onlyCharging_refreshLamp (releaseContext_charges h .detach).onlyCharging⟩

/-- A unit told, and then its context released. -/
theorem tellReleased_released {y : Context} (h : s.context k = some y) (x : Context) (reason : LeaveReason) :
    Charges s (releaseContext k reason (tellReleased k x s))
      ∧ Released reason k y s (releaseContext k reason (tellReleased k x s))
      ∧ ((s.cell x.cell).state.joined = true →
        s.ports.deck ++ [(x.cell, releaseFrame k x)] <+: (releaseContext k reason (tellReleased k x s)).ports.deck) := by
  have htold := tellReleased_billed h x
  refine ⟨htold.charges.trans (releaseContext_charges htold.after reason), ?_, fun hjoined => ?_⟩
  · exact (releaseContext_released htold.after reason).of_ends (fun c => by rw [State.cell, tellReleased_duc]; rfl)
      (tellReleased_tkq k x s) (fun j _ => by rw [State.context, tellReleased_sbt]; rfl) (.refl _) rfl rfl
  · rw [← tellReleased_deck k x s hjoined]
    exact releaseContext_deck htold.after reason

/-- SUB_RELEASE of a context that is not LEAVING: told, and then released (R110). -/
theorem exec_subRelease_held {tag : Nat} (ht : tag < 256) (hr : Ready 0x32 s) (hk : k < 2048) (h : s.context k = some x)
    (hstate : x.state ≠ .leaving) :
    Next (exec (.subRelease tag k) s) fun t =>
      Released .host k x s t ∧ OnlyCharging { s with ctp := { s.ctp with inbound := t.ctp.inbound, outbound := t.ctp.outbound } } t
        ∧ Answered s t tag 0x32 (be 2 k) .ok []
        ∧ ((s.cell x.cell).state.joined = true → (s.sentSince t).head? = some (x.cell, releaseFrame k x)) := by
  have hx : (arrived ⟨tag, 0x32, be 2 k, false⟩ s).context k = some x := h
  obtain ⟨hcharges, hreleased, hdeck⟩ := tellReleased_released hx x .host
  refine ⟨_, congrArg done (request_arrived ht hr (bodyFits_of_length rfl (by decide) (by simp) (by simp))), ?_⟩
  rw [subRelease_rule hk hx hstate]
  refine ⟨?_, hcharges.replied tag .ok [] rfl, ?_, fun hjoined => head_sentSince ?_⟩
  · have hends := hreleased.of_ends (s := s) (fun _ => rfl) rfl (fun _ _ => rfl)
      (appendReply_beyond tag .ok [] _) (appendReply_rte tag .ok [] _) (appendReply_tkq tag .ok [] _)
    exact hends.refreshed
  · obtain ⟨hwaiting, -⟩ := hr
    exact appendReply_answered hwaiting (hcharges.part (fun u => u.ctp.inbound) fun _ => rfl)
      (hcharges.part (fun u => u.ctp.outbound) fun _ => rfl) .ok []
  · rw [refreshLamp_ports]
    exact hdeck hjoined

/-- The grace deadline of an orphan: told, and then released (R112). -/
theorem exec_graceDeadline_orphan (h : s.context k = some x) {d : Nat} (horphan : x.orphan = some d) :
    Next (exec (.graceDeadline k) s) fun t =>
      Released .cellLost k x s t ∧ OnlyCharging { s with shipTime := max s.shipTime d } t
        ∧ ((s.cell x.cell).state.joined = true → (s.sentSince t).head? = some (x.cell, releaseFrame k x)) := by
  have hx : (reachDeadline d s).context k = some x := h
  have hset := setContext_billed (y := { x with orphan := none }) hx rfl rfl
  obtain ⟨hcharges, hreleased, hdeck⟩ := tellReleased_released hset.after x .cellLost
  have hexec := done_atExpiry_some (t := (s.context k).bind Context.orphan) (d := d) (by rw [h]; exact horphan) (graceOver k) s
  rw [graceOver, hx] at hexec
  refine ⟨_, hexec, ?_, onlyCharging_refreshLamp (hset.charges.trans hcharges).onlyCharging, fun hjoined => head_sentSince ?_⟩
  · have hends := hreleased.of_ends (s := s) (fun _ => rfl) rfl (fun j hj => setContext_context_ne hj ..) (.refl _) rfl rfl
    have hrecord := Released.mk (x := x) hends.freed hends.stays hends.withdrawn hends.others
    exact hrecord.refreshed
  · rw [refreshLamp_ports]
    exact hdeck hjoined

/-- Settles O48: one release told or not, from three commands; and what each of them refuses. -/
theorem releases : Obligations.Releases := by
  intro s k sid c tag ht hk
  refine ⟨fun x h hstate hsid hjoined => ?_, fun hsid hjoined hother => ?_, fun hr hk x h hstate => ?_,
    fun hr => ⟨fun hk => ?_, fun hk h => ?_, fun hk h => ?_⟩, fun x h hstate d horphan => ?_, fun hnone => ?_⟩
  · obtain ⟨t, hexec, hreleased, honly⟩ := exec_detach_own h hstate hsid hjoined
    obtain ⟨hfreed, hstays, hwithdrawn, hothers⟩ := hreleased.settled
    exact ⟨t, hexec, hfreed, hstays, hwithdrawn, hothers, honly⟩
  · rw [exec_detach_joined hsid hjoined, detachAtSbt_other hother]
    rfl
  · obtain ⟨t, hexec, hreleased, honly, hanswered, hsent⟩ := exec_subRelease_held ht hr hk h hstate
    obtain ⟨hfreed, hstays, hwithdrawn, hothers⟩ := hreleased.settled
    exact ⟨t, hexec, hfreed, hstays, hwithdrawn, hothers, honly, hanswered, hsent⟩
  · exact replies_of_arrived ht hr (bodyFits_of_length rfl (by decide) (by simp) (by simp)) rfl (subRelease_badArg hk _)
  · exact replies_of_arrived ht hr (bodyFits_of_length rfl (by decide) (by simp) (by simp)) rfl (subRelease_notFound hk h)
  · exact replies_of_arrived ht hr (bodyFits_of_length rfl (by decide) (by simp) (by simp)) rfl (subRelease_leaving hk h)
  · obtain ⟨t, hexec, hreleased, honly, hsent⟩ := exec_graceDeadline_orphan h horphan
    obtain ⟨hfreed, hstays, hwithdrawn, hothers⟩ := hreleased.settled
    exact ⟨t, hexec, hfreed, hstays, hwithdrawn, hothers, honly, hsent⟩
  · show done (atExpiry ((s.context k).bind Context.orphan) (graceOver k) s) = _
    rw [done_atExpiry_none hnone]
    rfl

end Sys2Proof.Proofs
end

section
/-! SUPPORT. A zone change to waters without service (R113, R114), and the settling of O49: what it makes of one context, and that no
other context is touched by it. -/

namespace Sys2Proof.Proofs

open Sys2Proof.Machine

variable {k : Nat} {x : Context} {s t : State}

/-- A context left at waters without service. -/
def leftWaters (complete : Bool) (x : Context) : Context :=
  { x with state := .leaving, orphan := none, registration := .none, leaving := some ⟨.serviceOff, complete⟩ }

/-- What a zone change to waters without service makes of a context whose cell is in a state. -/
def afterWaters (cell : CellState) (x : Context) : Option Context :=
  match x.state with
  | .attaching => none
  | .active =>
    if cell.quiet then if x.held.isSome then some (leftWaters true x) else none
    else some (leftWaters false x)
  | .leaving => some x

theorem serviceOffContext_free (h : s.context k = none) : serviceOffContext k s = s := by rw [serviceOffContext, h]

theorem serviceOffContext_leaving (h : s.context k = some x) (hstate : x.state = .leaving) : serviceOffContext k s = s := by
  rw [serviceOffContext, h]
  dsimp only
  rw [hstate]

theorem serviceOffContext_attaching (h : s.context k = some x) (hstate : x.state = .attaching) :
    serviceOffContext k s = freeContext k (cancelRegistration k (sendDeck x.cell (.refuse .noService x.sid) s)) := by
  rw [serviceOffContext, h]
  dsimp only
  rw [hstate]

/-- An ACTIVE context is LEAVING, and closed where its cell reports no more counts. -/
theorem serviceOffContext_active (h : s.context k = some x) (hstate : x.state = .active) :
    serviceOffContext k s
      = if (s.cell x.cell).state.quiet then completeCounts k (setContext k (leftWaters false x) (cancelRegistration k s))
        else setContext k (leftWaters false x) (cancelRegistration k s) := by
  rw [serviceOffContext, h]
  dsimp only
  rw [hstate, modContext_eq (cancelRegistration_cancelled h).billed.after]
  rfl

/-- The counts of a context complete: it waits for its held usage, or is freed (R114). -/
theorem completeCounts_held (h : s.context k = some x) (hheld : x.held.isSome = true) :
    completeCounts k s = setContext k { x with leaving := some ⟨.serviceOff, true⟩ } s := by
  have hholds : s.holds k = true := by rw [State.holds, h]; exact hheld
  rw [completeCounts, if_pos hholds, modContext_eq h]

theorem completeCounts_empty (h : s.context k = some x) (hheld : x.held.isSome = false) :
    completeCounts k s = freeContext k (closeAccumulator k .serviceOff s) := by
  have hholds : s.holds k = false := by rw [State.holds, h]; exact hheld
  rw [completeCounts, if_neg (by simp [hholds])]

/-! ### One context -/

/-- A frame to a cell sent between two states. -/
def Told (e : CellId × DeckFrame) (s t : State) : Prop :=
  ∃ front back, s.ports.deck <+: front ∧ t.ports.deck = front ++ e :: back

theorem Told.of_prefixes {e : CellId × DeckFrame} {u v : State} (h : Told e u v) (hs : s.ports.deck <+: u.ports.deck)
    (ht : v.ports.deck <+: t.ports.deck) : Told e s t := by
  obtain ⟨front, back, hfront, hback⟩ := h
  obtain ⟨more, hmore⟩ := ht
  exact ⟨front, back ++ more, hs.trans hfront, by rw [← hmore, hback, List.append_assoc, List.cons_append]⟩

/-- One context handled at the zone change. -/
structure Handed (k : Nat) (x : Context) (s t : State) : Prop where
  charges : Charges s t
  deck : s.ports.deck <+: t.ports.deck
  self : t.context k = afterWaters (s.cell x.cell).state x
  others (j : Nat) : j ≠ k → t.context j = s.context j
  told : x.state = .attaching → (s.cell x.cell).state.joined = true → Told (x.cell, .refuse .noService x.sid) s t

theorem afterWaters_leaving (cell : CellState) (h : x.state = .leaving) : afterWaters cell x = some x := by
  simp only [afterWaters, h]

theorem serviceOff_attaching (h : s.context k = some x) (hstate : x.state = .attaching) :
    Handed k x s (serviceOffContext k s) := by
  have hsent := sendDeck_billed h x.cell (.refuse .noService x.sid)
  have hcancelled := cancelRegistration_cancelled hsent.after
  have hall := hsent.step hcancelled.billed
  have hfrom : (sendDeck x.cell (.refuse .noService x.sid) s).ports.deck <+: (freeContext k
      (cancelRegistration k (sendDeck x.cell (.refuse .noService x.sid) s))).ports.deck := by
    rw [← hcancelled.ports]
    exact (freeContext_charged ..).deck
  rw [serviceOffContext_attaching h hstate]
  refine ⟨hall.charges.trans (freeContext_charges ..), (sendDeck_settled ..).deck.trans hfrom, ?_,
    fun j hj => (freeContext_context_ne hj _).trans (hall.context_ne hj), fun _ hjoined => ?_⟩
  · rw [freeContext_context_self hall.after]
    simp only [afterWaters, hstate]
  · refine Told.of_prefixes (u := s) ⟨s.ports.deck, [], List.prefix_rfl, ?_⟩ List.prefix_rfl hfrom
    rw [sendDeck, if_pos hjoined]
    rfl

theorem serviceOff_active (h : s.context k = some x) (hstate : x.state = .active) :
    Handed k x s (serviceOffContext k s) := by
  have hcancelled := cancelRegistration_cancelled h
  have hset : Billed k { x with registration := .none } (leftWaters false x) [] (cancelRegistration k s)
      (setContext k (leftWaters false x) (cancelRegistration k s)) := setContext_billed hcancelled.billed.after rfl rfl
  have hall := hcancelled.billed.step hset
  have hdeck : s.ports.deck <+: (setContext k (leftWaters false x) (cancelRegistration k s)).ports.deck := by
    rw [setContext_ports, hcancelled.ports]
  have hnot (hattaching : x.state = .attaching) (p : Prop) : p := by simp [hstate] at hattaching
  rw [serviceOffContext_active h hstate]
  cases hquiet : (s.cell x.cell).state.quiet with
  | false =>
    refine ⟨hall.charges, hdeck, ?_, fun j hj => hall.context_ne hj, fun h _ => hnot h _⟩
    rw [if_neg Bool.false_ne_true, hall.after]
    simp [afterWaters, hstate, hquiet]
  | true =>
    rw [if_pos rfl]
    cases hheld : x.held.isSome with
    | true =>
      have hwaits : Billed k (leftWaters false x) (leftWaters true x) [] (setContext k (leftWaters false x) (cancelRegistration k s))
          (setContext k (leftWaters true x) (setContext k (leftWaters false x) (cancelRegistration k s))) :=
        setContext_billed hset.after rfl rfl
      rw [completeCounts_held hset.after hheld]
      refine ⟨(hall.step hwaits).charges, hdeck, ?_, fun j hj => (hall.step hwaits).context_ne hj, fun h _ => hnot h _⟩
      simp [afterWaters, hstate, hquiet, hheld, leftWaters]
    | false =>
      obtain ⟨q, b, hclosed⟩ := closeAccumulator_billed hset.after .serviceOff
      have hgone := hall.step hclosed
      rw [completeCounts_empty hset.after hheld]
      refine ⟨hgone.charges.trans (freeContext_charges ..), ?_, ?_,
        fun j hj => (freeContext_context_ne hj _).trans (hgone.context_ne hj), fun h _ => hnot h _⟩
      · exact (hdeck.trans (closeAccumulator_settled ..).deck).trans (freeContext_charged ..).deck
      · rw [freeContext_context_self hgone.after]
        simp [afterWaters, hstate, hquiet, hheld]

theorem serviceOffContext_handed (h : s.context k = some x) : Handed k x s (serviceOffContext k s) := by
  cases hstate : x.state with
  | attaching => exact serviceOff_attaching h hstate
  | active => exact serviceOff_active h hstate
  | leaving =>
    rw [serviceOffContext_leaving h hstate]
    exact ⟨.refl s, List.prefix_rfl, by rw [h, afterWaters_leaving _ hstate], fun _ _ => rfl, fun h => by simp [hstate] at h⟩

/-! ### Every context -/

theorem Charges.cellState (h : Charges s t) (c : CellId) : (t.cell c).state = (s.cell c).state := by
  have hcell (u : State) : (outsideCharging u).cell c = { u.cell c with attached := 0 } := Charged.outside_cell u c
  exact h.part (fun u => (u.cell c).state) fun u => by rw [hcell u]

theorem serviceOffContext_context_ne {j : Nat} (hj : j ≠ k) (s : State) :
    (serviceOffContext k s).context j = s.context j := by
  cases h : s.context k with
  | none => rw [serviceOffContext_free h]
  | some x => exact (serviceOffContext_handed h).others j hj

theorem serviceOffContext_charges (k : Nat) (s : State) :
    Charges s (serviceOffContext k s) ∧ s.ports.deck <+: (serviceOffContext k s).ports.deck := by
  cases h : s.context k with
  | none => rw [serviceOffContext_free h]; exact ⟨.refl s, List.prefix_rfl⟩
  | some x => exact ⟨(serviceOffContext_handed h).charges, (serviceOffContext_handed h).deck⟩

theorem forEach_serviceOff_charges (l : List Nat) (s : State) :
    Charges s (forEach l serviceOffContext s) ∧ s.ports.deck <+: (forEach l serviceOffContext s).ports.deck :=
  forEach_keeps (property := fun t => Charges s t ∧ s.ports.deck <+: t.ports.deck)
    (fun k _ t ⟨hcharges, hdeck⟩ =>
      ⟨hcharges.trans (serviceOffContext_charges k t).1, hdeck.trans (serviceOffContext_charges k t).2⟩)
    ⟨.refl s, List.prefix_rfl⟩

/-- A turn for other contexts leaves a context. -/
theorem forEach_serviceOff_other {l : List Nat} (hk : k ∉ l) (s : State) :
    (forEach l serviceOffContext s).context k = s.context k :=
  forEach_keeps (property := fun t => t.context k = s.context k)
    (fun j hj t ht => (serviceOffContext_context_ne (fun h => hk (by rwa [h])) t).trans ht) rfl

/-- A context that is FREE or LEAVING stays as it is. -/
theorem forEach_serviceOff_settled {r : Option Context} (hr : ∀ y ∈ r, y.state = .leaving) (l : List Nat) (hs : s.context k = r) :
    (forEach l serviceOffContext s).context k = r := by
  refine forEach_keeps (property := fun t => t.context k = r) (fun j _ t ht => ?_) hs
  by_cases hj : k = j
  · subst hj
    cases hcontext : t.context k with
    | none => rw [serviceOffContext_free hcontext, ht]
    | some y => rw [serviceOffContext_leaving hcontext (hr y (ht ▸ hcontext)), ht]
  · exact (serviceOffContext_context_ne hj t).trans ht

theorem afterWaters_state {cell : CellState} {y : Context} (h : y ∈ afterWaters cell x) : y.state = .leaving := by
  cases hstate : x.state with
  | attaching => simp [afterWaters, hstate] at h
  | leaving =>
    rw [afterWaters_leaving cell hstate] at h
    rwa [← Option.some.inj h]
  | active =>
    simp only [afterWaters, hstate] at h
    split at h
    · split at h
      · rw [← Option.some.inj h]
        rfl
      · cases h
    · rw [← Option.some.inj h]
      rfl

/-- The zone change as one context sees it. -/
theorem forEach_serviceOff_handed (h : s.context k = some x) {l : List Nat} (hk : k ∈ l) :
    (forEach l serviceOffContext s).context k = afterWaters (s.cell x.cell).state x
      ∧ (x.state = .attaching → (s.cell x.cell).state.joined = true →
        Told (x.cell, .refuse .noService x.sid) s (forEach l serviceOffContext s)) := by
  obtain ⟨before, after, rfl, hbefore⟩ := List.eq_append_cons_of_mem hk
  have hloop : forEach (before ++ k :: after) serviceOffContext s
      = forEach after serviceOffContext (serviceOffContext k (forEach before serviceOffContext s)) := List.foldl_append
  obtain ⟨hcharges, hdeck⟩ := forEach_serviceOff_charges before s
  have hcell : ((forEach before serviceOffContext s).cell x.cell).state = (s.cell x.cell).state :=
    hcharges.cellState x.cell
  have hhanded := serviceOffContext_handed ((forEach_serviceOff_other hbefore s).trans h)
  have hself := hhanded.self
  rw [hcell] at hself
  rw [hloop]
  exact ⟨forEach_serviceOff_settled (fun _ => afterWaters_state) after hself, fun hstate hjoined =>
    (hhanded.told hstate (hcell ▸ hjoined)).of_prefixes hdeck (forEach_serviceOff_charges after _).2⟩

/-! ### The obligation -/

/-- The state in which the SBT has taken one zone change. -/
def serviceOffTaken (s : State) : State := { s with mail := { s.mail with sbt := s.mail.sbt - 1 } }

theorem exec_serviceOffRelease_none (h : s.mail.sbt = 0) : exec .serviceOffRelease s = done s := by
  show done (match s.mail.sbt with | 0 => s | n + 1 => _) = _
  rw [h]

theorem exec_serviceOffRelease_some (h : 0 < s.mail.sbt) :
    exec .serviceOffRelease s = done (forEach s.contextIndices serviceOffContext (serviceOffTaken s)) := by
  obtain ⟨n, hn⟩ := Nat.exists_eq_add_of_lt h
  have hsbt : s.mail.sbt = n + 1 := by omega
  show done (match s.mail.sbt with | 0 => s | n + 1 => _) = _
  rw [serviceOffTaken, hsbt]
  rfl

theorem refreshLamp_context (k : Nat) (s : State) : (refreshLamp s).context k = s.context k := by
  rw [State.context, refreshLamp_sbt]
  rfl

/-- Settles O49: the loop reaches every context in use, and the turn of each leaves the others. -/
theorem watersWithoutService : Obligations.WatersWithoutService := by
  intro s k
  refine ⟨exec_serviceOffRelease_none, fun hmail x h => ⟨_, exec_serviceOffRelease_some hmail, ?_⟩⟩
  obtain ⟨hself, htold⟩ := forEach_serviceOff_handed (s := serviceOffTaken s) h (mem_contextIndices h)
  have honly := onlyCharging_refreshLamp (forEach_serviceOff_charges s.contextIndices (serviceOffTaken s)).1.onlyCharging
  rw [← refreshLamp_context] at hself
  refine ⟨fun hstate => ⟨?_, fun hjoined => ?_⟩, fun hstate => ⟨fun hquiet => ?_, fun hquiet hheld => ?_, fun hquiet hheld => ?_⟩,
    fun hstate => hself.trans (afterWaters_leaving _ hstate), honly⟩
  · rw [hself]
    simp only [afterWaters, hstate]
  · obtain ⟨front, back, hfront, hback⟩ := htold hstate hjoined
    exact mem_sentSince hfront ((congrArg Ports.deck (refreshLamp_ports _)).trans hback)
  · rw [hself, afterWaters, hstate]
    exact if_neg (Bool.eq_false_iff.mp hquiet)
  · rw [hself, afterWaters, hstate]
    exact (if_pos hquiet).trans (if_neg (by simp [hheld]))
  · rw [hself, afterWaters, hstate]
    exact (if_pos hquiet).trans (if_pos hheld)

end Sys2Proof.Proofs
end

section
/-! SUPPORT. Serving the hold list does not read the inbound queue: each operation it is made of does the same with one more entry at the
queue's tail. -/

namespace Sys2Proof.Proofs

open Sys2Proof.Machine

/-- An operation does the same with one more entry at the tail of the inbound queue. -/
structure Overlooks (op : State → State) : Prop where
  alike (e : InEntry) (s : State) : op (arrived e s) = arrived e (op s)

theorem Overlooks.comp {f g : State → State} (hf : Overlooks f) (hg : Overlooks g) : Overlooks fun s => f (g s) :=
  ⟨fun e s => (congrArg f (hg.alike e s)).trans (hf.alike e (g s))⟩

/-- A choice that does not depend on the inbound queue. -/
theorem arrived_ite {p : Prop} [Decidable p] {e : InEntry} {a b c d : State} (hc : a = arrived e c) (hd : b = arrived e d) :
    (if p then a else b) = arrived e (if p then c else d) := by
  split
  · exact hc
  · exact hd

/-- An operation that looks a context up first. -/
theorem Overlooks.context {k : Nat} {op : State → State} (free : ∀ s, s.context k = none → op s = s)
    (used : ∀ (e : InEntry) (s : State) (x : Context), s.context k = some x → op (arrived e s) = arrived e (op s)) :
    Overlooks op := by
  refine ⟨fun e s => ?_⟩
  cases h : s.context k with
  | none => rw [free s h, free (arrived e s) h]
  | some x => exact used e s x h

theorem modContext_free {k : Nat} {s : State} (h : s.context k = none) (f : Context → Context) : modContext k f s = s := by
  rw [modContext, h]

theorem modContext_overlooks (k : Nat) (f : Context → Context) : Overlooks (modContext k f) :=
  .context (fun _ h => modContext_free h f) fun e s x h => by
    rw [modContext_eq h, modContext_eq (s := arrived e s) h]
    rfl

/-! ### The debit (R161 to R163) -/

theorem joinAttention_overlooks (k : Nat) (r : AttentionReason) : Overlooks (joinAttention k r) := by
  refine ⟨fun e s => ?_⟩
  unfold joinAttention
  rw [arrived_rte]
  split
  · rfl
  · split <;> rfl

theorem restrict_free {k : Nat} {s : State} (h : s.context k = none) (f : Restrictions → Restrictions) : restrict k f s = s := by
  rw [restrict, h]

theorem restrict_overlooks (k : Nat) (f : Restrictions → Restrictions) : Overlooks (restrict k f) :=
  .context (fun _ h => restrict_free h f) fun e s x h => by
    rw [restrict_eq h, restrict_eq (s := arrived e s) h]
    rfl

theorem attend_overlooks (k : Nat) (x : Context) (r : AttentionReason) : Overlooks (attend k x r) := ⟨fun e s => by
  rw [attend, (joinAttention_overlooks k r).alike]
  rfl⟩

theorem debit_overlooks (k d : Nat) : Overlooks (debit k d) :=
  .context (fun _ h => debit_none h d) fun e s x h => by
    cases hlimit : x.quota.unlimited with
    | true => rw [debit_unlimited h hlimit, debit_unlimited (s := arrived e s) h hlimit]
    | false =>
      rw [debit_notice h hlimit, debit_notice (s := arrived e s) h hlimit]
      have htaken : taken k d x (arrived e s) = arrived e (taken k d x s) := rfl
      rw [htaken, (attend_overlooks ..).alike, (attend_overlooks ..).alike]
      exact arrived_ite rfl (arrived_ite rfl rfl)

/-! ### Closing (R159, R169) -/

theorem appendTicket_overlooks (v : Ticket) : Overlooks (appendTicket v) := ⟨fun _ _ => arrived_ite rfl rfl⟩

theorem settle_overlooks (k : Nat) (a : Accumulator) : Overlooks fun s => if a.unsettled then debit k a.settlement s else s :=
  ⟨fun e s => arrived_ite ((debit_overlooks ..).alike e s) rfl⟩

theorem handOver_overlooks (k : Nat) (a : Accumulator) (reason : CloseReason) : Overlooks (handOver k a reason) := by
  refine ⟨fun e s => ?_⟩
  have hsettle := (settle_overlooks k a).alike e s
  unfold handOver
  dsimp only at hsettle ⊢
  rw [hsettle]
  generalize (if a.unsettled then debit k a.settlement s else s) = u
  have hcontext : (arrived e u).context k = u.context k := rfl
  rw [hcontext]
  cases u.context k with
  | none => rfl
  | some x => exact (appendTicket_overlooks _).alike e u

theorem closeAccumulator_overlooks (k : Nat) (reason : CloseReason) : Overlooks (closeAccumulator k reason) := by
  refine ⟨fun e s => ?_⟩
  have hcontext : (arrived e s).context k = s.context k := rfl
  unfold closeAccumulator
  rw [hcontext]
  cases (s.context k).bind Context.accumulator with
  | none => rfl
  | some a => exact ((modContext_overlooks ..).comp (handOver_overlooks ..)).alike e s

/-! ### Rating (R154 to R160, R165, R171) -/

theorem rateInto_overlooks (k up down epoch : Nat) (late : Bool) : Overlooks (rateInto k up down epoch late) := by
  refine ⟨fun e s => ?_⟩
  have hcontext : (arrived e s).context k = s.context k := rfl
  unfold rateInto
  rw [hcontext]
  cases s.context k with
  | none => rfl
  | some x =>
    dsimp only
    cases x.accumulator with
    | none => rfl
    | some a =>
      have hset (y : Context) : setContext k y (arrived e s) = arrived e (setContext k y s) := rfl
      dsimp only
      rw [hset, (debit_overlooks ..).alike]
      rfl

theorem countLate_overlooks (late : Bool) : Overlooks (countLate late) := by
  cases late <;> exact ⟨fun _ _ => rfl⟩

theorem openOrHold_room (k up down tag : Nat) (key : Key) (epoch : Nat) (late : Bool) :
    Overlooks (openOrHold k up down tag key epoch late true) := by
  refine ⟨fun e s => ?_⟩
  unfold openOrHold
  simp only [Bool.true_or, if_true]
  exact ((rateInto_overlooks ..).comp (modContext_overlooks ..)).alike e s

theorem lateTicket_overlooks (k up down : Nat) (key : Key) (epoch : Nat) : Overlooks (lateTicket k up down key epoch) :=
  ⟨fun e s => ((handOver_overlooks ..).comp (debit_overlooks ..)).alike e s⟩

theorem rateEntry_room (k up down tag : Nat) : Overlooks (rateEntry k up down tag true) := by
  refine ⟨fun e s => ?_⟩
  have hcontext : (arrived e s).context k = s.context k := rfl
  have hepoch : (arrived e s).epochFor tag = s.epochFor tag := rfl
  unfold rateEntry
  rw [hcontext, hepoch]
  cases s.context k with
  | none => rfl
  | some x =>
    dsimp only
    rw [(countLate_overlooks _).alike]
    cases x.accumulator with
    | none => exact (openOrHold_room ..).alike e _
    | some a =>
      simp only [Bool.true_or, if_true]
      refine arrived_ite ((rateInto_overlooks ..).alike e _) (arrived_ite ((lateTicket_overlooks ..).alike e _) ?_)
      exact ((openOrHold_room ..).comp (closeAccumulator_overlooks ..)).alike e _

theorem rateHeld_room (k : Nat) : Overlooks (rateHeld k true) := by
  refine ⟨fun e s => ?_⟩
  have hcontext : (arrived e s).context k = s.context k := rfl
  unfold rateHeld
  rw [hcontext]
  cases (s.context k).bind Context.held with
  | none => rfl
  | some held => exact ((modContext_overlooks ..).comp (rateEntry_room ..)).alike e s

/-! ### Serving (R174) -/

theorem freeContext_overlooks (k : Nat) : Overlooks (freeContext k) := by
  refine ⟨fun e s => ?_⟩
  have hcontext : (arrived e s).context k = s.context k := rfl
  unfold freeContext
  rw [hcontext]
  cases s.context k <;> rfl

theorem finishLeaving_overlooks (k : Nat) : Overlooks (finishLeaving k) := by
  refine ⟨fun e s => ?_⟩
  have hcontext : (arrived e s).context k = s.context k := rfl
  unfold finishLeaving
  rw [hcontext]
  cases (s.context k).bind Context.leaving with
  | none => rfl
  | some r => exact arrived_ite (((freeContext_overlooks k).comp (closeAccumulator_overlooks ..)).alike e s) rfl

theorem serveContext_overlooks (k : Nat) : Overlooks (serveContext k) :=
  (finishLeaving_overlooks k).comp ((restrict_overlooks k _).comp ((rateHeld_room k).comp ⟨fun _ _ => rfl⟩))

theorem serveWhile_overlooks (n : Nat) : Overlooks (serveWhile n) := by
  refine ⟨fun e s => ?_⟩
  induction n generalizing s with
  | zero => rfl
  | succ n ih =>
    unfold serveWhile
    rw [arrived_tkq]
    cases s.tkq.holdList with
    | nil => rfl
    | cons k rest =>
      dsimp only
      rw [(serveContext_overlooks k).alike, ih]
      exact arrived_ite rfl rfl

theorem serveHoldList_overlooks : Overlooks serveHoldList := ⟨fun e s => (serveWhile_overlooks _).alike e s⟩

end Sys2Proof.Proofs
end

section
/-! SUPPORT. Serving one context of the hold list (R165, R174): what becomes of its record, of the tickets, of the hold list and of the
gate count. -/

namespace Sys2Proof.Proofs

open Sys2Proof.Machine

variable {k : Nat} {x y : Context} {made : List (Volume × CloseReason)} {s t : State}

/-! ### Held usage of an older epoch (R160) -/

/-- An entry of an older epoch than the open record's becomes a ticket by itself, and the record stays. -/
theorem rateEntry_older {up down tag : Nat} (h : s.context k = some x) {a : Accumulator} (ha : x.accumulator = some a)
    (hkey : a.key ≠ s.keyUnder x.homeGroup (s.ratingEpoch tag))
    (hage : s.epochAge (s.ratingEpoch tag).number < s.epochAge a.lastEpoch) :
    ∃ y, (rateEntry k up down tag true s).context k = some y ∧ y.accumulator = some a := by
  have hlate := countLate_billed h (s.epochFor tag).2
  obtain ⟨q, b, hticket⟩ := lateTicket_billed (up := up) (down := down) hlate.after
    (s.keyUnder x.homeGroup (s.ratingEpoch tag)) (s.ratingEpoch tag).number
  have hentry : rateEntry k up down tag true s
      = lateTicket k up down (s.keyUnder x.homeGroup (s.ratingEpoch tag)) (s.ratingEpoch tag).number
        (countLate (s.epochFor tag).2 s) := by
    unfold rateEntry
    rw [h]
    dsimp only
    rw [ha, epochFor_fst]
    simp only [hkey, hage, if_true, if_false, Bool.true_or]
  rw [hentry]
  exact ⟨_, hticket.after, ha⟩

theorem rateHeld_older {held : Held} (h : s.context k = some x) (hheld : x.held = some held) {a : Accumulator}
    (ha : x.accumulator = some a) (hkey : a.key ≠ s.heldKey x held)
    (hage : s.epochAge (s.ratingEpoch held.epoch).number < s.epochAge a.lastEpoch) :
    ∃ y, (rateHeld k true s).context k = some y ∧ y.accumulator = some a := by
  obtain ⟨y, hy, hsame⟩ := rateEntry_older (up := held.up) (down := held.down) h ha hkey hage
  unfold rateHeld
  rw [h, Option.bind_some, hheld]
  dsimp only
  rw [modContext_eq hy]
  exact ⟨_, setContext_context_self .., hsame⟩

/-! ### The steps of serving (R174) -/

theorem leaveHoldList_handled (h : s.context k = some x) : Handled k x x [] s (leaveHoldList k s) where
  outside := rfl
  conds := .of_ctp rfl
  others := rfl
  order := id
  before := h
  after := h
  sid := rfl
  cell := rfl
  tickets := ⟨[], (List.append_nil _).symm, rfl⟩

theorem rateHeld_none (h : (s.context k).bind Context.held = none) (room : Bool) : rateHeld k room s = s := by
  rw [rateHeld, h]

/-- The BACKLOG restriction ended. -/
def unbacklogged (x : Context) : Context := { x with restrictions := { x.restrictions with backlog := false } }

/-- A context served, but for the closing of one that is leaving. -/
def relieved (k : Nat) (s : State) : State :=
  restrict k (fun r => { r with backlog := false }) (rateHeld k true (leaveHoldList k s))

theorem serveContext_eq (k : Nat) (s : State) : serveContext k s = finishLeaving k (relieved k s) := rfl

theorem relieved_free (h : s.context k = none) : relieved k s = leaveHoldList k s := by
  have hleft : (leaveHoldList k s).context k = none := h
  rw [relieved, rateHeld_none (by rw [hleft]; rfl), restrict_free hleft]

theorem rest_holdList (h : tkqRest t = tkqRest s) : t.tkq.holdList = s.tkq.holdList := by
  show (tkqRest t).holdList = (tkqRest s).holdList
  rw [h]

/-- What serving makes of the record and of the tickets before a closing: nothing where no usage is held. -/
structure Relieved (k : Nat) (x y : Context) (made : List (Volume × CloseReason)) (s t : State) : Prop where
  handled : Handled k x y made s t
  holdList : t.tkq.holdList = s.tkq.holdList.filter (· != k)
  held : y.held = none
  backlog : y.restrictions.backlog = false
  state : y.state = x.state
  leaving : y.leaving = x.leaving

theorem relieved_empty (h : s.context k = some x) (hheld : x.held = none) :
    Relieved k x (unbacklogged x) [] s (relieved k s) := by
  have hleft := leaveHoldList_handled h
  have hrestricted := restrict_billed hleft.after fun r => { r with backlog := false }
  have hsame : relieved k s = restrict k (fun r => { r with backlog := false }) (leaveHoldList k s) := by
    rw [relieved, rateHeld_none (by rw [hleft.after]; exact hheld)]
  rw [hsame]
  exact ⟨hleft.trans hrestricted.toHandled, rest_holdList hrestricted.rest, hheld, rfl, rfl, rfl⟩

/-- Held usage rated: what is open then holds what the rating says, and the tickets are the rating's. -/
theorem relieved_held (h : s.context k = some x) {held : Held} (hheld : x.held = some held) :
    ∃ q b z c,
      Relieved k x (unbacklogged { rebilled q b z (some c) x with held := none })
          (rated (s.heldKey x held) held.up held.down (olderEntry s held.epoch x) (x.accumulator.map volume)).1 s (relieved k s)
        ∧ volume c = (rated (s.heldKey x held) held.up held.down (olderEntry s held.epoch x) (x.accumulator.map volume)).2
        ∧ relieved k s
          = sendFrames
            (turnFrames k { rebilled q b z (some c) x with held := none } { x.restrictions with quota := b, backlog := false }
              (rateHeld k true (leaveHoldList k s)))
            (setContext k (unbacklogged { rebilled q b z (some c) x with held := none }) (rateHeld k true (leaveHoldList k s)))
        ∧ (∀ a, x.accumulator = some a → a.key ≠ s.heldKey x held → olderEntry s held.epoch x = true → c = a) := by
  have hleft := leaveHoldList_handled h
  obtain ⟨q, b, z, c, hrated, hc⟩ := rateHeld_billed (room := true) hleft.after hheld (.inl rfl)
  have hrestricted := restrict_billed hrated.after fun r => { r with backlog := false }
  refine ⟨q, b, z, c, ⟨?_, ?_, rfl, rfl, rfl, rfl⟩, hc, restrict_eq hrated.after _, fun a ha hkey hold => ?_⟩
  · have hall := (hleft.trans hrated.toHandled).trans hrestricted.toHandled
    rwa [List.append_nil] at hall
  · exact (rest_holdList hrestricted.rest).trans (rest_holdList hrated.rest)
  · have hage : s.epochAge (s.ratingEpoch held.epoch).number < s.epochAge a.lastEpoch := by
      simpa [olderEntry, ha] using hold
    obtain ⟨y, hy, hsame⟩ := rateHeld_older (s := leaveHoldList k s) hleft.after hheld ha hkey hage
    have hrecord := Option.some.inj (hrated.after.symm.trans hy)
    rw [← hrecord] at hsame
    exact Option.some.inj hsame

/-! ### The closing of a context that is leaving (R107) -/

/-- Whether a context is LEAVING with its counts complete. -/
def leavesNow (x : Context) : Bool := x.leaving.any LeavingRecord.complete

theorem leavesNow_iff : leavesNow x = true ↔ ∃ r, x.leaving = some r ∧ r.complete = true := by
  unfold leavesNow
  cases x.leaving <;> simp

theorem finishLeaving_stays (h : s.context k = some x) (hstays : leavesNow x = false) : finishLeaving k s = s := by
  unfold finishLeaving leavesNow at *
  rw [h, Option.bind_some]
  cases hr : x.leaving with
  | none => rfl
  | some r =>
    rw [hr, Option.any_some] at hstays
    exact if_neg (by simp [hstays])

theorem finishLeaving_goes (h : s.context k = some x) {r : LeavingRecord} (hr : x.leaving = some r) (hcomplete : r.complete = true) :
    finishLeaving k s = freeContext k (closeAccumulator k r.reason.close s) := by
  rw [finishLeaving, h, Option.bind_some, hr]
  exact if_pos hcomplete

/-- A context closed and freed: its record goes into a last ticket. -/
structure Gone (k : Nat) (x : Context) (made : List (Volume × CloseReason)) (s t : State) : Prop where
  charges : Charges s t
  others (j : Nat) : j ≠ k → t.context j = s.context j
  self : t.context k = none
  attached : (t.cell x.cell).attached = (s.cell x.cell).attached - 1
  attention : (t.rte.attention.all fun e => e.1 != k) = true
  tickets : ∃ new, t.tkq.tickets = s.tkq.tickets ++ new ∧ new.map stub = made.map fun m => (k, x.sid, m)
  gateCount : ContextsInOrder s → t.gateCount + openRecords x = s.gateCount + made.length

theorem gone_of_closed (h : Handled k x y made s t) (hclosed : y.accumulator = none) : Gone k x made s (freeContext k t) where
  charges := h.charges.trans (freeContext_charges ..)
  others j hj := (freeContext_context_ne hj _).trans (h.context_ne hj)
  self := freeContext_context_self h.after
  attached := by
    have hcell : t.cell x.cell = s.cell x.cell := h.part (fun u => u.cell x.cell) fun _ => rfl
    rw [freeContext_attached h.after, h.cell, if_pos rfl, hcell]
  attention := by
    rw [freeContext_attention h.after]
    simp
  tickets := by
    rw [freeContext_tkq]
    exact h.tickets
  gateCount horder := by
    have hgate := h.gateCount horder
    have hopen := openCount_eq (h.order horder) h.after
    have hnone : openRecords y = 0 := by simp [openRecords, hclosed]
    have hfreed : (freeContext k t).gateCount = t.gateCount := by
      unfold State.gateCount State.openCount at *
      rw [freeContext_tkq, freeContext_contexts h.after]
      omega
    omega

/-- A context relieved and LEAVING with its counts complete is closed with its leave reason and freed. -/
theorem Relieved.gone (h : Relieved k x y made s (relieved k s)) {r : LeavingRecord} (hr : x.leaving = some r)
    (hcomplete : r.complete = true) :
    Gone k x (made ++ closing r.reason.close y) s (serveContext k s) := by
  obtain ⟨q, b, hclosed⟩ := closeAccumulator_billed h.handled.after r.reason.close
  rw [serveContext_eq, finishLeaving_goes h.handled.after (h.leaving.trans hr) hcomplete]
  exact gone_of_closed (h.handled.trans hclosed.toHandled) rfl

theorem Relieved.stays (h : Relieved k x y made s (relieved k s)) (hstays : leavesNow x = false) :
    serveContext k s = relieved k s :=
  finishLeaving_stays h.handled.after (by rwa [leavesNow, h.leaving])

end Sys2Proof.Proofs
end

section
/-! SUPPORT. The hold list served from its head (R174): what each context and the gate see of it. -/

namespace Sys2Proof.Proofs

open Sys2Proof.Machine

variable {k : Nat} {x y : Context} {s t u : State}

/-! ### One context -/

/-- What serving leaves of a context: nothing where it is closed, else its record with no held usage and no BACKLOG. -/
def ServedRecord (x : Context) (r : Option Context) : Prop :=
  if leavesNow x = true then r = none
  else ∃ y ∈ r, y.held = none ∧ y.restrictions.backlog = false ∧ y.state = x.state ∧ y.leaving = x.leaving

/-- A context served. -/
structure Served (k : Nat) (s t : State) : Prop where
  charges : Charges s t
  holdList : t.tkq.holdList = s.tkq.holdList.filter (· != k)
  others (j : Nat) : j ≠ k → t.context j = s.context j
  self (x : Context) : s.context k = some x → ServedRecord x (t.context k)

theorem Relieved.served {made : List (Volume × CloseReason)} (h : Relieved k x y made s (relieved k s)) :
    Served k s (serveContext k s) := by
  have hself {z : Context} (hz : s.context k = some z) : z = x := Option.some.inj (hz.symm.trans h.handled.before)
  cases hleaves : leavesNow x with
  | false =>
    rw [h.stays hleaves]
    refine ⟨h.handled.charges, h.holdList, fun j hj => h.handled.context_ne hj, fun z hz => ?_⟩
    rw [hself hz, ServedRecord, if_neg (Bool.eq_false_iff.mp hleaves)]
    exact ⟨y, h.handled.after, h.held, h.backlog, h.state, h.leaving⟩
  | true =>
    obtain ⟨r, hr, hcomplete⟩ := leavesNow_iff.mp hleaves
    have hgone := h.gone hr hcomplete
    refine ⟨hgone.charges, ?_, hgone.others, fun z hz => ?_⟩
    · obtain ⟨q, b, hclosed⟩ := closeAccumulator_billed h.handled.after r.reason.close
      rw [serveContext_eq, finishLeaving_goes h.handled.after (h.leaving.trans hr) hcomplete, freeContext_tkq,
        rest_holdList hclosed.rest, h.holdList]
    · rw [hself hz, ServedRecord, if_pos hleaves]
      exact hgone.self

theorem serveContext_served (k : Nat) (s : State) : Served k s (serveContext k s) := by
  cases h : s.context k with
  | none =>
    have hfree : (leaveHoldList k s).context k = none := h
    have hserved : serveContext k s = leaveHoldList k s := by
      rw [serveContext_eq, relieved_free h, finishLeaving, hfree]
      rfl
    rw [hserved]
    exact ⟨⟨rfl, .of_ctp rfl, List.prefix_rfl⟩, rfl, fun _ _ => rfl, fun x hx => by simp [h] at hx⟩
  | some x =>
    cases hheld : x.held with
    | none => exact (relieved_empty h hheld).served
    | some held =>
      obtain ⟨q, b, z, c, hrelieved, -⟩ := relieved_held h hheld
      exact hrelieved.served

/-! ### The loop -/

theorem serveWhile_charges (n : Nat) (s : State) : Charges s (serveWhile n s) := by
  induction n generalizing s with
  | zero => exact .refl s
  | succ n ih =>
    unfold serveWhile
    split
    · exact .refl s
    next k _ _ =>
      split
      · exact (serveContext_served k s).charges.trans (ih _)
      · exact .refl s

theorem serveContext_shortens {rest : List Nat} (h : s.tkq.holdList = k :: rest) :
    (serveContext k s).tkq.holdList.length ≤ rest.length := by
  rw [(serveContext_served k s).holdList, h]
  simpa using List.length_filter_le (· != k) rest

/-- With turns enough for all, the list ends empty or the gate full. -/
theorem serveWhile_ends {n : Nat} (hn : s.tkq.holdList.length ≤ n) :
    (serveWhile n s).tkq.holdList = [] ∨ 2048 ≤ (serveWhile n s).gateCount := by
  induction n generalizing s with
  | zero => exact .inl (List.eq_nil_of_length_eq_zero (Nat.le_zero.mp hn))
  | succ n ih =>
    unfold serveWhile
    split
    next hlist => exact .inl hlist
    next k rest hlist =>
      split
      next =>
        rw [hlist] at hn
        exact ih ((serveContext_shortens hlist).trans (Nat.le_of_succ_le_succ hn))
      next hgate => exact .inr (by simpa [State.gateAdmits] using hgate)

theorem serveWhile_nil (n : Nat) (h : s.tkq.holdList = []) : serveWhile n s = s := by
  cases n with
  | zero => rfl
  | succ n => rw [serveWhile, h]

theorem serveWhile_full (n : Nat) (h : 2048 ≤ s.gateCount) : serveWhile n s = s := by
  have hgate : ¬ s.gateAdmits = true := by simpa [State.gateAdmits] using h
  cases n with
  | zero => rfl
  | succ n =>
    unfold serveWhile
    split
    · rfl
    · exact if_neg hgate

/-- Further turns than the list is long make no difference. -/
theorem serveWhile_enough {n m : Nat} (hn : s.tkq.holdList.length ≤ n) (hm : s.tkq.holdList.length ≤ m) :
    serveWhile n s = serveWhile m s := by
  induction n generalizing m s with
  | zero =>
    have hlist := List.eq_nil_of_length_eq_zero (Nat.le_zero.mp hn)
    rw [serveWhile_nil 0 hlist, serveWhile_nil m hlist]
  | succ n ih =>
    cases hlist : s.tkq.holdList with
    | nil => rw [serveWhile_nil _ hlist, serveWhile_nil _ hlist]
    | cons k rest =>
      rw [hlist, List.length_cons] at hn hm
      obtain ⟨m, rfl⟩ := Nat.exists_eq_add_of_le' (Nat.le_trans (Nat.le_add_left 1 _) hm)
      have hshorter := serveContext_shortens hlist
      simp only [serveWhile, hlist]
      rw [ih (hshorter.trans (Nat.le_of_succ_le_succ hn)) (hshorter.trans (Nat.le_of_succ_le_succ hm))]

theorem serveHoldList_nil (h : s.tkq.holdList = []) : serveHoldList s = s := serveWhile_nil _ h

theorem serveHoldList_full (h : 2048 ≤ s.gateCount) : serveHoldList s = s := serveWhile_full _ h

/-- The list is served from its head. -/
theorem serveHoldList_head (h : s.tkq.holdList.head? = some k) (hgate : s.gateCount < 2048) :
    serveHoldList s = serveHoldList (serveContext k s) := by
  obtain ⟨rest, hlist⟩ := List.head?_eq_some_iff.mp h
  have hadmits : s.gateAdmits = true := decide_eq_true hgate
  have hstep : serveHoldList s = serveWhile rest.length (serveContext k s) := by
    rw [serveHoldList, hlist, List.length_cons, serveWhile, hlist]
    exact if_pos hadmits
  rw [hstep]
  exact serveWhile_enough (serveContext_shortens hlist) (Nat.le_refl _)

/-- The list as every context sees it served: those taken off are served once, the others untouched. -/
structure ServedList (s t : State) : Prop where
  suffix : t.tkq.holdList <:+ s.tkq.holdList
  kept (k : Nat) : k ∉ s.tkq.holdList ∨ k ∈ t.tkq.holdList → t.context k = s.context k
  served (k : Nat) (x : Context) : k ∈ s.tkq.holdList → k ∉ t.tkq.holdList → s.context k = some x →
    ServedRecord x (t.context k)

theorem ServedList.refl (s : State) : ServedList s s :=
  ⟨List.suffix_rfl, fun _ _ => rfl, fun _ _ hk hnot _ => absurd hk hnot⟩

/-- The head served, and then the rest. -/
theorem ServedList.cons {rest : List Nat} (hlist : s.tkq.holdList = k :: rest) (hnodup : (k :: rest).Nodup) (h : Served k s t)
    (g : ServedList t u) : ServedList s u := by
  obtain ⟨hk, -⟩ := List.nodup_cons.mp hnodup
  have hrest : t.tkq.holdList = rest := by
    rw [h.holdList, hlist, List.filter_cons_of_neg (by simp)]
    exact List.filter_eq_self.mpr fun j hj => by simpa using fun hjk : j = k => hk (hjk ▸ hj)
  obtain ⟨hsuffix, hkept, hserved⟩ := g
  rw [hrest] at hsuffix hkept hserved
  refine ⟨?_, fun j hj => ?_, fun j x hj hnot hx => ?_⟩
  · rw [hlist]
    exact hsuffix.trans (List.suffix_cons ..)
  · rw [hlist] at hj
    have hne : j ≠ k := by
      rintro rfl
      rcases hj with hj | hj
      · exact hj List.mem_cons_self
      · exact hk (hsuffix.subset hj)
    have hbefore : j ∉ rest ∨ j ∈ u.tkq.holdList := hj.imp_left fun hj hmem => hj (List.mem_cons_of_mem _ hmem)
    rw [hkept j hbefore, h.others j hne]
  · rw [hlist] at hj
    rcases List.mem_cons.mp hj with rfl | hj
    · rw [hkept j (.inl hk)]
      exact h.self x hx
    · have hne : j ≠ k := fun hjk => hk (hjk ▸ hj)
      exact hserved j x hj hnot ((h.others j hne).trans hx)

theorem serveWhile_servedList (n : Nat) (hnodup : s.tkq.holdList.Nodup) : ServedList s (serveWhile n s) := by
  induction n generalizing s with
  | zero => exact .refl s
  | succ n ih =>
    unfold serveWhile
    split
    next => exact .refl s
    next k rest hlist =>
      split
      next =>
        have hserved := serveContext_served k s
        have hafter : (serveContext k s).tkq.holdList.Nodup := hserved.holdList ▸ hnodup.filter _
        exact .cons hlist (hlist ▸ hnodup) hserved (ih hafter)
      next => exact .refl s

end Sys2Proof.Proofs
end

section
/-! SUPPORT. What the rating of held usage makes, in the words of O58, TICKET_RELEASE and the interval close (R165, R174, R175), and the
settling of O58. -/

namespace Sys2Proof.Proofs

open Sys2Proof.Machine

variable {k : Nat} {x y : Context} {s t u : State}

/-! ### The rating of held usage (R156, R160, R165) -/

/-- A context's open record of a key. -/
def ownRecord (key : Key) (x : Context) : Option Accumulator := x.accumulator.filter fun a => a.key == key

/-- What held usage charges once it is rated: its own bytes, after those of an open record of its key. -/
def heldVolume (key : Key) (x : Context) (h : Held) : Volume :=
  ⟨key, min maxBytes ((ownRecord key x).elim 0 Accumulator.up + h.up),
    min maxBytes ((ownRecord key x).elim 0 Accumulator.down + h.down)⟩

/-- Whether held usage is of an older epoch than an open record of another key. -/
def lateHeld (s : State) (key : Key) (x : Context) (h : Held) : Bool :=
  x.accumulator.any fun a =>
    a.key != key && decide (s.epochAge ((s.heldEpoch h.epoch).getD s.oldestEpoch).number < s.epochAge a.lastEpoch)

/-- The key and the reason of each ticket that the rating of held usage makes. -/
def ratedPairs (s : State) (key : Key) (x : Context) (h : Held) : List (Key × CloseReason) :=
  match x.accumulator with
  | none => []
  | some a => if a.key = key then [] else if lateHeld s key x h = true then [(key, .late)] else [(a.key, a.key.difference key)]

/-- The key of the record open after it. -/
def lastKey (s : State) (key : Key) (x : Context) (h : Held) : Key :=
  if lateHeld s key x h = true then (x.accumulator.map Accumulator.key).getD key else key

/-- What the rating of held usage makes and leaves open. -/
def heldRating (s : State) (x : Context) (h : Held) : List (Volume × CloseReason) × Volume :=
  rated (s.heldKey x h) h.up h.down (olderEntry s h.epoch x) (x.accumulator.map volume)

theorem heldVolume_new {key : Key} {h : Held} (hown : ownRecord key x = none) : heldVolume key x h = .first key h.up h.down := by
  simp [heldVolume, hown, Volume.first]

/-- The rating in the words of O58: late usage is a ticket by itself beside the open record; any other is in the record open after
it. -/
theorem heldRating_spec (s : State) (x : Context) (h : Held) :
    (heldRating s x h).1.map (fun m => (m.1.key, m.2)) = ratedPairs s (s.heldKey x h) x h
      ∧ (heldRating s x h).1.length ≤ openRecords x
      ∧ (heldRating s x h).2.key = lastKey s (s.heldKey x h) x h
      ∧ (lateHeld s (s.heldKey x h) x h = true →
        (heldRating s x h).1 = [(heldVolume (s.heldKey x h) x h, .late)]
          ∧ ∃ a, x.accumulator = some a ∧ a.key ≠ s.heldKey x h ∧ olderEntry s h.epoch x = true)
      ∧ (lateHeld s (s.heldKey x h) x h = false → (heldRating s x h).2 = heldVolume (s.heldKey x h) x h) := by
  unfold heldRating
  generalize s.heldKey x h = key
  cases ha : x.accumulator with
  | none =>
    have hown : ownRecord key x = none := by rw [ownRecord, ha]; rfl
    have hlate : lateHeld s key x h = false := by rw [lateHeld, ha]; rfl
    simp [heldVolume_new hown, hlate, ratedPairs, lastKey, rated, ha, Volume.first]
  | some a =>
    by_cases hkey : a.key = key
    · have hown : ownRecord key x = some a := by simp [ownRecord, ha, hkey]
      have hlate : lateHeld s key x h = false := by simp [lateHeld, ha, hkey]
      simp [heldVolume, hown, hlate, ratedPairs, lastKey, rated, ha, hkey, volume, Volume.add]
    · have hown : ownRecord key x = none := by simp [ownRecord, ha, hkey]
      have hlate : lateHeld s key x h = olderEntry s h.epoch x := by
        have hne : (a.key != key) = true := bne_iff_ne.mpr hkey
        simp only [lateHeld, olderEntry, ha, Option.any_some, hne, Bool.true_and]
        rfl
      cases hold : olderEntry s h.epoch x <;>
        simp [heldVolume_new hown, hlate, ratedPairs, lastKey, rated, ha, hkey, hold, volume, Volume.first, openRecords]

theorem volume_matches {c : Accumulator} {v : Volume} (h : volume c = v) :
    (c.key == v.key && c.up == v.up && c.down == v.down) = true := by
  simp [← h, volume]

/-! ### Tickets read by their stubs -/

/-- The tickets that are after others. -/
theorem drop_of_append {l new all : List Ticket} (h : all = l ++ new) : all.drop l.length = new := by rw [h, List.drop_left]

theorem stubs_pairs {sid : Sid} {new : List Ticket} {made : List (Volume × CloseReason)}
    (h : new.map stub = made.map fun m => (k, sid, m)) :
    new.map (fun u => (u.key, u.reason)) = made.map fun m => (m.1.key, m.2) := by
  have hpairs := congrArg (List.map fun q : Nat × Sid × Volume × CloseReason => (q.2.2.1.key, q.2.2.2)) h
  simpa [stub, Function.comp_def] using hpairs

theorem stubs_any {sid : Sid} {new : List Ticket} {made : List (Volume × CloseReason)}
    (h : new.map stub = made.map fun m => (k, sid, m)) {v : Volume} {reason : CloseReason} (hv : (v, reason) ∈ made) :
    new.any (fun u => u.key == v.key && u.ctx == k && u.sid == sid && u.up == v.up && u.down == v.down) = true := by
  have hmem : (k, sid, v, reason) ∈ new.map stub := by
    rw [h]
    exact List.mem_map.mpr ⟨_, hv, rfl⟩
  obtain ⟨w, hw, hstub⟩ := List.mem_map.mp hmem
  simp only [stub, Prod.mk.injEq] at hstub
  obtain ⟨hctx, hsid, hvolume, -⟩ := hstub
  exact List.any_of_mem hw (by simp [← hvolume, hctx, hsid])

/-! ### A context with held usage served (R174) -/

/-- What O58 says of a context whose held usage is served. -/
structure HeldServed (k : Nat) (x : Context) (h : Held) (s t : State) : Prop where
  served : Served k s t
  gateCount : ContextsInOrder s → t.gateCount ≤ s.gateCount + 1
  closed (r : LeavingRecord) : x.leaving = some r → r.complete = true →
    t.context k = none ∧ (t.cell x.cell).attached = (s.cell x.cell).attached - 1
      ∧ t.rte.attention.all (fun e => e.1 != k) = true
      ∧ (t.tkq.tickets.drop s.tkq.tickets.length).map (fun u => (u.key, u.reason))
        = ratedPairs s (s.heldKey x h) x h ++ [(lastKey s (s.heldKey x h) x h, r.reason.close)]
      ∧ (t.tkq.tickets.drop s.tkq.tickets.length).any
          (fun u =>
            u.key == s.heldKey x h && u.ctx == k && u.sid == x.sid && u.up == (heldVolume (s.heldKey x h) x h).up
              && u.down == (heldVolume (s.heldKey x h) x h).down)
        = true
  stays : leavesNow x = false →
    (t.tkq.tickets.drop s.tkq.tickets.length).map (fun u => (u.key, u.reason)) = ratedPairs s (s.heldKey x h) x h
      ∧ ∃ q b z c,
        t.context k = some (unbacklogged { rebilled q b z (some c) x with held := none })
          ∧ (lateHeld s (s.heldKey x h) x h = true → x.accumulator = some c)
          ∧ (lateHeld s (s.heldKey x h) x h = false → volume c = heldVolume (s.heldKey x h) x h)
          ∧ (x.state = .active → (s.cell x.cell).state.joined = true → x.restrictions.backlog = true →
            ({ x.restrictions with quota := b, backlog := false } : Restrictions) = ⟨false, false, false⟩ →
            t.ports.deck.getLast? = some (x.cell, .lift x.sid k))

theorem turnFrames_lift {new : Restrictions} (hactive : x.state = .active) (hjoined : (s.cell x.cell).state.joined = true)
    (hbefore : x.restrictions ≠ ⟨false, false, false⟩) (hafter : new = ⟨false, false, false⟩) :
    turnFrames k x new s = [(x.cell, .lift x.sid k)] := by
  simp [turnFrames, hactive, hjoined, hbefore, hafter]

theorem serveContext_held (hx : s.context k = some x) {h : Held} (hheld : x.held = some h) :
    HeldServed k x h s (serveContext k s) := by
  obtain ⟨q, b, z, c, hrelieved, hc, hframes, hsame⟩ := relieved_held hx hheld
  obtain ⟨hpairs, hlength, hlast, hlate, hnew⟩ := heldRating_spec s x h
  rw [← heldRating] at hrelieved hc
  refine ⟨hrelieved.served, fun horder => ?_, fun r hr hcomplete => ?_, fun hstays => ?_⟩
  · cases hleaves : leavesNow x with
    | false =>
      rw [hrelieved.stays hleaves]
      have hgate := hrelieved.handled.gateCount horder
      have hopen : openRecords (unbacklogged { rebilled q b z (some c) x with held := none }) = 1 := rfl
      omega
    | true =>
      obtain ⟨r, hr, hcomplete⟩ := leavesNow_iff.mp hleaves
      have hgate := (hrelieved.gone hr hcomplete).gateCount horder
      have hlast : (closing r.reason.close (unbacklogged { rebilled q b z (some c) x with held := none })).length = 1 := rfl
      rw [List.length_append, hlast] at hgate
      omega
  · have hgone := hrelieved.gone hr hcomplete
    obtain ⟨new, htickets, hstubs⟩ := hgone.tickets
    have hclosing : closing r.reason.close (unbacklogged { rebilled q b z (some c) x with held := none })
        = [((heldRating s x h).2, r.reason.close)] := by
      rw [← hc]
      rfl
    rw [hclosing] at hstubs
    rw [drop_of_append htickets]
    refine ⟨hgone.self, hgone.attached, hgone.attention, ?_, ?_⟩
    · rw [stubs_pairs hstubs, List.map_append, hpairs, List.map_cons, hlast]
      rfl
    · cases hold : lateHeld s (s.heldKey x h) x h with
      | true =>
        obtain ⟨hmade, -⟩ := hlate hold
        exact stubs_any hstubs (v := heldVolume (s.heldKey x h) x h) (reason := .late) (by simp [hmade])
      | false => exact stubs_any hstubs (v := heldVolume (s.heldKey x h) x h) (reason := r.reason.close) (by simp [hnew hold])
  · obtain ⟨new, htickets, hstubs⟩ := hrelieved.handled.tickets
    rw [hrelieved.stays hstays, drop_of_append htickets]
    refine ⟨(stubs_pairs hstubs).trans hpairs, q, b, z, c, hrelieved.handled.after, fun hold => ?_, fun hold => hc.trans (hnew hold),
      fun hactive hjoined hbacklog hempty => ?_⟩
    · obtain ⟨-, a, ha, hkey, holder⟩ := hlate hold
      rw [ha, hsame a ha hkey holder]
    · have hrated : Charges s (rateHeld k true (leaveHoldList k s)) := by
        have hleft := leaveHoldList_handled hx
        obtain ⟨_, _, _, _, hbilled, -⟩ := rateHeld_billed (room := true) hleft.after hheld (.inl rfl)
        exact hleft.charges.trans hbilled.charges
      have hbefore : ({ x.restrictions with quota := b } : Restrictions) ≠ ⟨false, false, false⟩ := by
        simp [hbacklog]
      have hlift := turnFrames_lift (k := k) (s := rateHeld k true (leaveHoldList k s))
        (x := { rebilled q b z (some c) x with held := none }) hactive (by rw [hrated.cellState]; exact hjoined) hbefore hempty
      have hdeck : (relieved k s).ports.deck
          = (rateHeld k true (leaveHoldList k s)).ports.deck ++ [(x.cell, .lift x.sid k)] := by
        rw [hframes]
        exact congrArg _ hlift
      rw [hdeck]
      exact List.getLast?_concat ..

/-! ### TICKET_RELEASE and the interval deadline (R174, R175) -/

/-- A state from whose queue tickets have been released. -/
def ticketsDropped (n : Nat) (s : State) : State := { s with tkq := { s.tkq with tickets := s.tkq.tickets.drop n } }

theorem ticketRelease_absent {sequence : Nat} (h : s.tkq.tickets.all (fun v => v.seq != sequence) = true) :
    ticketRelease sequence s = answer .notFound s := by
  have hnone : s.tkq.tickets.findIdx? (fun v => v.seq == sequence) = none := by
    rw [List.findIdx?_eq_none_iff]
    simpa using h
  rw [ticketRelease, hnone]

theorem ticketRelease_found {sequence i : Nat} (h : s.tkq.tickets.findIdx? (fun v => v.seq == sequence) = some i) :
    ticketRelease sequence s
      = ⟨serveHoldList (ticketsDropped (i + 1) s), .ok, be 2 (i + 1) ++ be 2 (s.tkq.tickets.length - (i + 1))⟩ := by
  rw [ticketRelease, h, ← List.length_drop]
  rfl

/-- A release answered: the hold list is served as if the request had not come through the queue. -/
theorem exec_ticketRelease_found {tag sequence i : Nat} (ht : tag < 256) (hr : Ready 0x51 s)
    (h : s.tkq.tickets.findIdx? (fun v => v.seq == sequence) = some i) :
    Replies (exec (.ticketRelease tag sequence) s) tag 0x51 (be 4 sequence) .ok
      (be 2 (i + 1) ++ be 2 (s.tkq.tickets.length - (i + 1))) (serveHoldList (ticketsDropped (i + 1) s)) := by
  have hcharges : Charges (ticketsDropped (i + 1) s) (serveHoldList (ticketsDropped (i + 1) s)) := serveWhile_charges ..
  refine replies_of_arrived ht hr (bodyFits_of_length rfl (by decide) (by simp) (by simp))
    (hcharges.part (fun u => u.ctp.inbound) fun _ => rfl) ?_
  rw [ticketRelease_found (s := arrived _ s) h, ← serveHoldList_overlooks.alike]
  rfl

/-- What a rule only charges, its request only charges, beside the queues. -/
theorem onlyCharging_replied (h : OnlyCharging s u) {tag code : Nat} {body reply : List Byte} {status : Status}
    (ht : t = refreshLamp (u.replied tag code body status reply)) :
    OnlyCharging { s with ctp := { s.ctp with inbound := t.ctp.inbound, outbound := t.ctp.outbound } } t := by
  obtain ⟨hstate, hcells⟩ := h
  have hqueues : t.ctp = (u.replied tag code body status reply).ctp := by rw [ht, refreshLamp_ctp]
  rw [hqueues, ht]
  exact onlyCharging_refreshLamp ⟨congrArg (fun w : State =>
    { w with
      ctp :=
        { w.ctp with
          inbound := (u.replied tag code body status reply).ctp.inbound
          outbound := (u.replied tag code body status reply).ctp.outbound } }) hstate, hcells⟩

theorem refreshLamp_gateCount (s : State) : (refreshLamp s).gateCount = s.gateCount := by
  unfold State.gateCount State.openCount
  rw [refreshLamp_tkq, refreshLamp_sbt]

/-- What a release of tickets leaves: the rest of the queue, the hold list served, and nothing but charges. -/
theorem ticketRelease_next {n tag code : Nat} {body reply : List Byte} {status : Status}
    (ht : t = refreshLamp ((serveHoldList (ticketsDropped n s)).replied tag code body status reply)) :
    Answered s t tag code body status reply ∧ s.tkq.tickets.drop n <+: t.tkq.tickets
      ∧ (t.tkq.holdList = [] ∨ 2048 ≤ t.gateCount)
      ∧ OnlyCharging { s with ctp := { s.ctp with inbound := t.ctp.inbound, outbound := t.ctp.outbound } } t
      ∧ (s.tkq.holdList.Nodup → ServedList s t) := by
  have hcharges : Charges (ticketsDropped n s) (serveHoldList (ticketsDropped n s)) := serveWhile_charges ..
  have hin : (serveHoldList (ticketsDropped n s)).ctp.inbound = s.ctp.inbound :=
    hcharges.part (fun u => u.ctp.inbound) fun _ => rfl
  have hout : (serveHoldList (ticketsDropped n s)).ctp.outbound = s.ctp.outbound :=
    hcharges.part (fun u => u.ctp.outbound) fun _ => rfl
  have honly : OnlyCharging s (serveHoldList (ticketsDropped n s)) := hcharges.onlyCharging
  have htkq : t.tkq = (serveHoldList (ticketsDropped n s)).tkq := by rw [ht, refreshLamp_tkq]; rfl
  have hgate : t.gateCount = (serveHoldList (ticketsDropped n s)).gateCount := by rw [ht, refreshLamp_gateCount]; rfl
  have hcontext (j : Nat) : t.context j = (serveHoldList (ticketsDropped n s)).context j := by
    rw [ht, refreshLamp_context]
    rfl
  refine ⟨⟨?_, ?_⟩, ?_, ?_, onlyCharging_replied honly ht, fun hnodup => ?_⟩
  · rw [ht, refreshLamp_ctp, ← hin]
    rfl
  · rw [ht, refreshLamp_ctp, ← hout]
    rfl
  · rw [htkq]
    exact hcharges.tickets
  · rw [htkq, hgate]
    exact serveWhile_ends (Nat.le_refl _)
  · obtain ⟨hsuffix, hkept, hserved⟩ := serveWhile_servedList (s := ticketsDropped n s) s.tkq.holdList.length hnodup
    exact ⟨htkq ▸ hsuffix, fun j hj => (hcontext j).trans (hkept j (htkq ▸ hj)),
      fun j x hj hnot hx => hcontext j ▸ hserved j x hj (htkq ▸ hnot) hx⟩

theorem intervalDeadline_some (hinterval : s.settings.interval ≠ 0) {a : Accumulator}
    (ha : (s.context k).bind Context.accumulator = some a) :
    s.intervalDeadline k = some (a.start + 60000 * s.settings.interval) := by
  rw [State.intervalDeadline, if_neg hinterval, ha]
  rfl

theorem intervalDeadline_none (h : s.settings.interval = 0 ∨ (s.context k).bind Context.accumulator = none) :
    s.intervalDeadline k = none := by
  unfold State.intervalDeadline
  split
  · rfl
  next hinterval =>
    rw [h.resolve_left hinterval]
    rfl

/-- Settles O58: the release by the ticket named, the hold list by its head, one context served by its held usage, and the interval
deadline by the accumulator. -/
theorem ticketReleaseAndInterval : Obligations.TicketReleaseAndInterval := by
  intro s tag sequence k ht _
  refine ⟨fun hr h => ?_, fun hr i hi => ⟨fun hlist => ?_, exec_ticketRelease_found ht hr hi, ?_⟩,
    ⟨fun h => ?_, serveHoldList_head⟩, fun horder x hx h hheld => ?_, fun hinterval a ha => ?_, fun h => ?_⟩
  · exact replies_of_arrived ht hr (bodyFits_of_length rfl (by decide) (by simp) (by simp)) rfl (ticketRelease_absent h)
  · have hreply := exec_ticketRelease_found ht hr hi
    rwa [serveHoldList_nil (s := ticketsDropped (i + 1) s) hlist] at hreply
  · obtain ⟨hanswered, hrest, hends, honly, hlist⟩ := ticketRelease_next (t := refreshLamp _) rfl
    refine ⟨_, exec_ticketRelease_found ht hr hi, hanswered, hrest, fun _ => hends, honly, fun _ hnodup => ?_⟩
    obtain ⟨hsuffix, hkept, hserved⟩ := hlist hnodup
    exact ⟨hsuffix, hkept k, fun hk hnot x hx => hserved k x hk hnot hx⟩
  · rcases h with h | h
    · exact serveHoldList_nil h
    · exact serveHoldList_full h
  · obtain ⟨⟨hcharges, hlist, hothers, -⟩, hgate, hclosed, hstays⟩ := serveContext_held hx hheld
    refine ⟨hcharges.onlyCharging, hlist, hcharges.tickets, hgate horder, hothers, fun r hr hcomplete => hclosed r hr hcomplete,
      fun hleaving => ?_⟩
    obtain ⟨hmade, q, b, z, c, hcontext, hlate, hnew, hlift⟩ := hstays hleaving
    refine ⟨hmade, ?_, _, hcontext, rfl, hlift⟩
    cases hold : lateHeld s (s.heldKey x h) x h with
    | true =>
      refine (if_pos hold).mpr ?_
      rw [hcontext, hlate hold]
      rfl
    | false =>
      refine (if_neg (Bool.eq_false_iff.mp hold)).mpr ?_
      rw [hcontext]
      exact volume_matches (hnew hold)
  · show done (atExpiry (s.intervalDeadline k) (closeAccumulator k .interval) s) = _
    rw [done_atExpiry_some (intervalDeadline_some hinterval ha)]
    rfl
  · show done (atExpiry (s.intervalDeadline k) (closeAccumulator k .interval) s) = _
    rw [done_atExpiry_none (intervalDeadline_none h)]
    rfl

end Sys2Proof.Proofs
end
